-- ==== Sys2Proof/Word.lean ====
section
/-! DEFINITION. The words and plain quantities of the CORE (spec/00_scope.md R10, R11, R15). Timestamps
and ages are plain `Nat`: unbounded numbers of milliseconds (R11). -/

namespace Sys2Proof

/-- An event word `EV[7:0]`, what the CORE has in place of an instruction word (30_encoding.md R90). -/
abbrev EventWord := BitVec 8

/-- The 32-bit code of a credential frame; `ACC_BITS = 32` (00_scope.md R7, R9 (e)). -/
abbrev Code := BitVec 32

/-- The 8-bit bit count of a credential frame; `CNT_BITS = 8` (00_scope.md R7, R9 (e)). -/
abbrev Count := BitVec 8

/-- A duty 0..255 as it stands in a PWM register (10_state.md R32, 30_encoding.md R99). -/
abbrev Duty := BitVec 8

/-- An attribution label: a finite character string, opaque to the CORE (10_state.md R30). -/
abbrev Label := String

/-- A melody selection name (20_memory.md R60, 43_melody_sequencer.md R200). -/
abbrev Selection := String

end Sys2Proof
end

