-- ==== Sys2Proof/Config.lean ====
section
/-! DEFINITION. The configuration record `Cfg`, the named values it speaks of, the constants of the spec and the
free values (00_scope.md R7 to R9, 10_state.md R44, 70_reset_and_hazards.md R301). -/

namespace Sys2Proof

/-- The nine door states, in the order of their codes 0..8 (10_state.md R26, 30_encoding.md R96). -/
inductive DoorState where
  | locked
  | preOpeningToParcel
  | openingToParcel
  | parcelOpen
  | preOpeningToMail
  | openingToMail
  | mailOpen
  | locking
  | motorError
  deriving DecidableEq, Repr

/-- One entry of a note ROM: `(frequency, tempo_divisor)` (30_encoding.md R100). -/
structure Note where
  frequency : Nat
  tempoDivisor : Nat
  deriving DecidableEq, Repr

/-- A melody: `{ notes, whole_note_ms }` (10_state.md R34, 30_encoding.md R100). -/
structure Melody where
  notes : List Note
  wholeNoteMs : Nat
  deriving DecidableEq, Repr

/-- The two LED indicator levels `(LED_G, LED_R)` (10_state.md R33). -/
structure Leds where
  green : Bool
  red : Bool
  deriving DecidableEq, Repr

/-- `LED_MAP` as a table, one row per door state (42_door_state_machine.md R186). -/
structure LedMap where
  locked : Leds
  preOpeningToParcel : Leds
  openingToParcel : Leds
  parcelOpen : Leds
  preOpeningToMail : Leds
  openingToMail : Leds
  mailOpen : Leds
  locking : Leds
  motorError : Leds
  deriving DecidableEq, Repr

/-- `FMT`, the code formatter `(code, bits) -> string` (00_scope.md R8), as plain data: the strings of the listed
arguments and one string for all others. The arguments are finitely many, so every formatter is such a table
(notes/assumptions/18.md). -/
structure Formatter where
  entries : List ((Code × Count) × String)
  otherwise : String
  deriving DecidableEq, Repr, Inhabited

/-- The configuration record `Cfg` (10_state.md R44): the parameters of 00_scope.md R7 and R8. `ACC_BITS` and
`CNT_BITS` are the widths of `Code` and `Count`; `GAP_NUM / GAP_DEN` and `DUTY_MAX` are no fields of the record in R44 and are constants below. -/
structure Cfg where
  quietMs : Nat
  minBits : Nat
  openingDelayMs : Nat
  motorTimeoutMs : Nat
  openDwellMs : Nat
  inactivityMs : Nat
  brake : Nat
  breakawayDuty : Nat
  fullPowerMs : Nat
  rampMs : Nat
  dutyOpen : Nat
  dutyClose : Nat
  melodyTable : List (Selection × Melody)
  defaultMelody : Melody
  melodySelect : Selection
  ledMap : LedMap
  debounceMs : Nat
  fmt : Formatter
  pollAtomic : Bool
  deriving DecidableEq, Repr

namespace Config

/-- `GAP_NUM` of the note-gap factor 6/5 (00_scope.md R7). -/
def gapNum : Nat := 6

/-- `GAP_DEN` of the note-gap factor 6/5 (00_scope.md R7). -/
def gapDen : Nat := 5

/-- `DUTY_MAX`, the top of the duty scale (00_scope.md R7). -/
def dutyMax : Nat := 255

/-- `ACC_BITS`, the number of edges of a frame that shift (00_scope.md R7). -/
def accBits : Nat := 32

/-- The default `LED_MAP` of 42_door_state_machine.md R186. -/
def defaultLedMap : LedMap where
  locked := ⟨false, false⟩
  preOpeningToParcel := ⟨true, false⟩
  openingToParcel := ⟨false, true⟩
  parcelOpen := ⟨true, false⟩
  preOpeningToMail := ⟨true, false⟩
  openingToMail := ⟨false, true⟩
  mailOpen := ⟨true, false⟩
  locking := ⟨false, true⟩
  motorError := ⟨false, true⟩

/-- `FMT` of the configuration that `State.reset` holds: open and external (10_state.md R31, decision D28), a constant
without a body (notes/assumptions/18.md). -/
opaque fmtAtPowerOn : Formatter

/-- The configuration that `State.reset` holds. DESIGN CHOICE, unsafe (notes/assumptions/2.md): the defaults of
00_scope.md R7 and R8 where the spec gives one, and the spec's own example values `CfgT` of 95_test_vectors.md
section 0 for the open parameters; `FMT`, for which it has none, is the free value above (notes/assumptions/18.md).
A `RESET` operation latches any other well-formed record. -/
def powerOn : Cfg where
  quietMs := 50
  minBits := 4
  openingDelayMs := 700
  motorTimeoutMs := 2000
  openDwellMs := 1000
  inactivityMs := 10000
  brake := 255
  breakawayDuty := 255
  fullPowerMs := 200
  rampMs := 300
  dutyOpen := 180
  dutyClose := 150
  melodyTable := [("confirm", ⟨[⟨440, 4⟩, ⟨880, 8⟩], 1000⟩)]
  defaultMelody := ⟨[⟨523, 8⟩, ⟨784, 4⟩], 800⟩
  melodySelect := "confirm"
  ledMap := defaultLedMap
  debounceMs := 0
  fmt := fmtAtPowerOn
  pollAtomic := true

/-! Free values. 70_reset_and_hazards.md R301 and 93_implementation_defined.md V1: the reset value of these seven
registers is "any value", to be represented "as an arbitrary value (a draw), not as zero". Each constant has no
body; it is applied to the draw counter of State, so that every reset draws afresh (notes/assumptions/3.md). -/

/-- `W_LAST` after a reset (10_state.md R23). -/
opaque wLastAtReset : Nat → Nat

/-- `F_CODE` after a reset (10_state.md R24). -/
opaque fCodeAtReset : Nat → Code

/-- `F_BITS` after a reset (10_state.md R24). -/
opaque fBitsAtReset : Nat → Count

/-- `F_AT` after a reset (10_state.md R24). -/
opaque fAtAtReset : Nat → Nat

/-- `PHASE_AT` after a reset (10_state.md R27). -/
opaque phaseAtAtReset : Nat → Nat

/-- `MOTOR_AT` after a reset (10_state.md R28). -/
opaque motorAtAtReset : Nat → Nat

/-- `M_NOTE_AT` after a reset (10_state.md R36). -/
opaque mNoteAtAtReset : Nat → Nat

end Config

end Sys2Proof
end

