-- ==== Sys2Proof/Syntax.lean ====
section
/-! DEFINITION. The operations of the CORE, one constructor per row of spec/opcode_table.json (30_encoding.md R90,
R104). Only the operands that stand inside the event word are arguments; the ambient operands stand on the ports
of State (30_encoding.md R103). -/

namespace Sys2Proof

/-- An operation of the CORE. -/
inductive Instr where
  /-- `EDGE0`, a falling edge on reader line 0 (40_wiegand_decoder.md R121). -/
  | edge0
  /-- `EDGE1`, a falling edge on reader line 1 (40_wiegand_decoder.md R122). -/
  | edge1
  /-- `REQ_OPEN_PARCEL`, ambient `label` (42_door_state_machine.md R162). -/
  | reqOpenParcel
  /-- `REQ_OPEN_MAIL`, ambient `label` (42_door_state_machine.md R163). -/
  | reqOpenMail
  /-- `REQ_CLOSE` (42_door_state_machine.md R164). -/
  | reqClose
  /-- `TICK` with the sampled levels of `SW_CLOSED`, `SW_PARCEL`, `SW_MAIL`; ambient `auth` (44_tick_and_sync.md R220). -/
  | tick (c p m : Bool)
  /-- `DB.SAMPLE`, ambient switch levels (45_switch_debounce.md R240). -/
  | dbSample
  /-- `SM.TIMED` (42_door_state_machine.md R166). -/
  | smTimed
  /-- `M.WRITE` (41_motor_ramp.md R146). -/
  | mWrite
  /-- `S.TICK` (43_melody_sequencer.md R204). -/
  | sTick
  /-- `SM.SWITCH` (42_door_state_machine.md R174). -/
  | smSwitch
  /-- `SM.CRED`, ambient `auth` (42_door_state_machine.md R180). -/
  | smCred
  /-- `W.POLL` (40_wiegand_decoder.md R124). -/
  | wPoll
  /-- `W.TAKE` (40_wiegand_decoder.md R126). -/
  | wTake
  /-- `S.START`, ambient `sel` (43_melody_sequencer.md R202). -/
  | sStart
  /-- `M.RAMP`, ambient `elapsed`, `target` (41_motor_ramp.md R140). -/
  | mRamp
  /-- `SM.ENTER`, ambient target state (42_door_state_machine.md R160). -/
  | smEnter
  /-- `M.CMD`, ambient state and `elapsed` (41_motor_ramp.md R144). -/
  | mCmd
  /-- `RESET`, ambient `Cfg` (70_reset_and_hazards.md R300). -/
  | reset
  deriving DecidableEq, Repr

end Sys2Proof
end

