-- ==== Sys2Proof/WellFormed.lean ====
section
/-! DEFINITION. Well-formedness of an operation and of a configuration (00_scope.md R9). -/

namespace Sys2Proof

/-- Every operand inside an event word is one bit "used as it stands" (30_encoding.md R103), so every operation that
can be written down is well-formed. -/
def Instr.wf : Instr → Bool
  | .edge0 => true
  | .edge1 => true
  | .reqOpenParcel => true
  | .reqOpenMail => true
  | .reqClose => true
  | .tick _ _ _ => true
  | .dbSample => true
  | .smTimed => true
  | .mWrite => true
  | .sTick => true
  | .smSwitch => true
  | .smCred => true
  | .wPoll => true
  | .wTake => true
  | .sStart => true
  | .mRamp => true
  | .smEnter => true
  | .mCmd => true
  | .reset => true

/-- Every `tempo_divisor` is at least 1 (00_scope.md R9 (d)). -/
def Melody.wf (m : Melody) : Bool :=
  m.notes.all (fun n => decide (1 ≤ n.tempoDivisor))

/-- 00_scope.md R9 (a): the three configured duties are in 0..255. The same is asked of `BRAKE`, whose unit in R7 is
also "duty" (DEDUCED, notes/assumptions/5.md). -/
def Cfg.dutiesInRange (c : Cfg) : Bool :=
  decide (c.breakawayDuty ≤ Config.dutyMax) && decide (c.dutyOpen ≤ Config.dutyMax) &&
    decide (c.dutyClose ≤ Config.dutyMax) && decide (c.brake ≤ Config.dutyMax)

/-- 00_scope.md R9 (b): the breakaway duty is above every configured steady-state duty. -/
def Cfg.breakawayHighest (c : Cfg) : Bool :=
  decide (c.dutyOpen < c.breakawayDuty) && decide (c.dutyClose < c.breakawayDuty)

/-- 00_scope.md R9 (c): the default tune is not empty. -/
def Cfg.defaultSounds (c : Cfg) : Bool :=
  !c.defaultMelody.notes.isEmpty

/-- 00_scope.md R9 (d): every divisor of the ROM, the default tune's included, is at least 1. -/
def Cfg.divisorsPositive (c : Cfg) : Bool :=
  c.defaultMelody.wf && c.melodyTable.all (fun e => e.2.wf)

/-- 00_scope.md R9 (f): `MIN_BITS >= 1`. -/
def Cfg.minBitsPositive (c : Cfg) : Bool :=
  decide (1 ≤ c.minBits)

/-- A well-formed configuration (00_scope.md R9; (e) holds by the types `Code` and `Count`). -/
def Cfg.wf (c : Cfg) : Bool :=
  c.dutiesInRange && c.breakawayHighest && c.defaultSounds && c.divisorsPositive && c.minBitsPositive

end Sys2Proof
end

