-- ==== Sys2Proof/Decode.lean ====
section
/-! DEFINITION. Event words to operations and back (30_encoding.md R91 to R95, R104 to R106). -/

namespace Sys2Proof

/-- Why a word is no operation: all such words are reserved (30_encoding.md R105). -/
inductive DecodeError where
  /-- `EV[7:4]` is not one of the classes `0x0`, `0x1`, `0x2`, `0x8`, `0xF`. -/
  | reservedClass (cls : BitVec 4)
  /-- The class exists and `EV[3:0]` is not one of its functions. -/
  | reservedFunction (cls fn : BitVec 4)
  /-- There is no word to read. -/
  | noWord
  deriving DecidableEq, Repr

/-- The class `EV[7:4]` (30_encoding.md R91). -/
def classOf (ev : EventWord) : BitVec 4 := ev.extractLsb' 4 4

/-- The function and small operands `EV[3:0]` (30_encoding.md R91). -/
def functionOf (ev : EventWord) : BitVec 4 := ev.extractLsb' 0 4

/-- Format E (30_encoding.md R92): `EV[0]` is the line. -/
def decodeEdge (fn : BitVec 4) : Except DecodeError Instr :=
  match fn with
  | 0x0#4 => .ok .edge0
  | 0x1#4 => .ok .edge1
  | _ => .error (.reservedFunction 0x0#4 fn)

/-- Format Q (30_encoding.md R93). -/
def decodeRequest (fn : BitVec 4) : Except DecodeError Instr :=
  match fn with
  | 0x0#4 => .ok .reqOpenParcel
  | 0x1#4 => .ok .reqOpenMail
  | 0x2#4 => .ok .reqClose
  | _ => .error (.reservedFunction 0x1#4 fn)

/-- Format T (30_encoding.md R94): `EV[3]` is 0, `EV[2:0]` are the levels `c`, `p`, `m`. -/
def decodeTick (fn : BitVec 4) : Except DecodeError Instr :=
  if fn.getLsbD 3 then .error (.reservedFunction 0x2#4 fn)
  else .ok (.tick (fn.getLsbD 2) (fn.getLsbD 1) (fn.getLsbD 0))

/-- Format I (30_encoding.md R95). -/
def decodeMicro (fn : BitVec 4) : Except DecodeError Instr :=
  match fn with
  | 0x0#4 => .ok .dbSample
  | 0x1#4 => .ok .smTimed
  | 0x2#4 => .ok .mWrite
  | 0x3#4 => .ok .sTick
  | 0x4#4 => .ok .smSwitch
  | 0x5#4 => .ok .smCred
  | 0x8#4 => .ok .wPoll
  | 0x9#4 => .ok .wTake
  | 0xA#4 => .ok .sStart
  | 0xB#4 => .ok .mRamp
  | 0xC#4 => .ok .smEnter
  | 0xD#4 => .ok .mCmd
  | _ => .error (.reservedFunction 0x8#4 fn)

/-- Format S (30_encoding.md R95). -/
def decodeSystem (fn : BitVec 4) : Except DecodeError Instr :=
  match fn with
  | 0x0#4 => .ok .reset
  | _ => .error (.reservedFunction 0xF#4 fn)

/-- "every event word is 8 bits and is decoded by class then function" (30_encoding.md R106). -/
def decodeWord (ev : EventWord) : Except DecodeError Instr :=
  match classOf ev with
  | 0x0#4 => decodeEdge (functionOf ev)
  | 0x1#4 => decodeRequest (functionOf ev)
  | 0x2#4 => decodeTick (functionOf ev)
  | 0x8#4 => decodeMicro (functionOf ev)
  | 0xF#4 => decodeSystem (functionOf ev)
  | cls => .error (.reservedClass cls)

/-- Decoding the front of a list of event words: one operation is one word (30_encoding.md R90, R106). -/
def decode : List EventWord → Except DecodeError (Instr × List EventWord)
  | [] => .error .noWord
  | ev :: rest => (decodeWord ev).map (fun i => (i, rest))

/-- The event word `0x20 + 4c + 2p + m` of a tick (44_tick_and_sync.md R220). -/
def encodeTick (c p m : Bool) : EventWord :=
  0x4#5 ++ BitVec.ofBool c ++ BitVec.ofBool p ++ BitVec.ofBool m

/-- The event word of an operation, from the map of 30_encoding.md R104. -/
def encodeWord : Instr → EventWord
  | .edge0 => 0x00#8
  | .edge1 => 0x01#8
  | .reqOpenParcel => 0x10#8
  | .reqOpenMail => 0x11#8
  | .reqClose => 0x12#8
  | .tick c p m => encodeTick c p m
  | .dbSample => 0x80#8
  | .smTimed => 0x81#8
  | .mWrite => 0x82#8
  | .sTick => 0x83#8
  | .smSwitch => 0x84#8
  | .smCred => 0x85#8
  | .wPoll => 0x88#8
  | .wTake => 0x89#8
  | .sStart => 0x8A#8
  | .mRamp => 0x8B#8
  | .smEnter => 0x8C#8
  | .mCmd => 0x8D#8
  | .reset => 0xF0#8

/-- The words of an operation: always one. -/
def encode (i : Instr) : List EventWord := [encodeWord i]

/-- What the decoder reads from the `nbits` low bits of `w`; the one event word has 8 bits, so a set bit at 8 or above
is no word of the CORE. -/
def decodeTableWord (nbits w : Nat) : Option Instr :=
  let v := w % 2 ^ nbits
  if v < 256 then
    match decode [BitVec.ofNat 8 v] with
    | .ok (i, _) => some i
    | .error _ => none
  else none

end Sys2Proof
end

