-- ==== Sys2Proof/Machine/State.lean ====
section
/-! DEFINITION. The state of the CORE as plain data (10_state.md R20 to R50), its inputs (10_state.md R41 to R43),
the reasons a run stops, and the state right after reset (70_reset_and_hazards.md R301). -/

namespace Sys2Proof.Machine

/-- The levels of `SW_CLOSED`, `SW_PARCEL`, `SW_MAIL`; true is engaged (10_state.md R41). -/
structure Levels where
  closed : Bool
  parcel : Bool
  mail : Bool
  deriving DecidableEq, Repr

/-- An `AUTH` answer as it stands on its port: a 2-bit code and a label beside it (30_encoding.md R101). -/
structure AuthWord where
  code : BitVec 2
  label : Label
  deriving DecidableEq, Repr

/-- The three forms of an `AUTH` answer (10_state.md R42, 30_encoding.md R101). -/
inductive AuthAnswer where
  | noMatch
  | owner (label : Label)
  | delivery (label : Label)
  deriving DecidableEq, Repr

/-- The input ports: the ambient operands of an operation (10_state.md R41 to R43, 30_encoding.md R103).
`stateCode` is the target state of `SM.ENTER` and the state of `M.CMD`. -/
structure Ports where
  now : Nat
  sw : Levels
  label : Label
  auth : AuthWord
  sel : Selection
  elapsed : Nat
  target : Duty
  stateCode : BitVec 4
  cfg : Cfg
  deriving DecidableEq, Repr

/-- Who presents an operation (00_scope.md R13, 60_exceptions.md R275). `harness` drives "one component alone"
(30_encoding.md R90). -/
inductive Agent where
  | irq
  | loop
  | host
  | environment
  | harness
  deriving DecidableEq, Repr

/-- One operation presented to the CORE: its event word, who presents it, its ambient operands, and whether, being an
edge, it falls inside a non-atomic `W.POLL` if one is open (44_tick_and_sync.md R228). -/
structure Event where
  word : EventWord
  source : Agent
  duringPoll : Bool
  ports : Ports
  deriving DecidableEq, Repr

/-- The in-progress group `W_ACC`, `W_CNT`, `W_LAST` (10_state.md R21 to R23). -/
structure InProgress where
  acc : Code
  cnt : Count
  last : Nat
  deriving DecidableEq, Repr

/-- The frame buffer `F_CODE`, `F_BITS`, `F_AT`, `F_AVAIL` (10_state.md R24, R25). -/
structure FrameBuffer where
  code : Code
  bits : Count
  at_ : Nat
  avail : Bool
  deriving DecidableEq, Repr

/-- A credential frame `(code, bit_count, captured_at)` (30_encoding.md R98). -/
structure Frame where
  code : Code
  bitCount : Count
  capturedAt : Nat
  deriving DecidableEq, Repr

/-- `DIAG_CODE`, `DIAG_BITS` (10_state.md R31). -/
structure Diag where
  code : Code
  bits : Count
  deriving DecidableEq, Repr

/-- A motor command `(channel_a_duty, channel_b_duty)`, and the registers `PWM_A`, `PWM_B` (10_state.md R32). -/
structure MotorCommand where
  a : Duty
  b : Duty
  deriving DecidableEq, Repr

/-- The last command given to the buzzer, `BUZ` (10_state.md R38, 30_encoding.md R102). -/
inductive Buzzer where
  | silent
  | tone (freq dur : Nat)
  deriving DecidableEq, Repr

/-- The melody registers `M_MEL`, `M_INDEX`, `M_NOTE_AT`, `M_DUR`, `M_PLAYING` and `BUZ` (10_state.md R34 to R38). -/
structure Player where
  mel : Melody
  index : Nat
  noteAt : Nat
  dur : Nat
  playing : Bool
  buz : Buzzer
  deriving DecidableEq, Repr

/-- `DB_OUT[i]`, `DB_RAW[i]`, `DB_SINCE[i]` of one switch (10_state.md R40). -/
structure Debounce where
  out : Bool
  raw : Bool
  since : Nat
  deriving DecidableEq, Repr

/-- The conditioning registers of the three switches (10_state.md R40). -/
structure Conditioning where
  closed : Debounce
  parcel : Debounce
  mail : Debounce
  deriving DecidableEq, Repr

/-- What an open request opens (30_encoding.md R93, R97). -/
inductive Kind where
  | parcel
  | mail
  deriving DecidableEq, Repr

/-- The handled conditions of 60_exceptions.md R261. -/
inductive Condition where
  | shortFrame (n : Count)
  | noMatch (code : Code) (bits : Count)
  | motorTimeout (s : DoorState)
  | failSafeRelock
  | ignoredRequest
  | frameOverwrite
  | overlong (n : Count)
  deriving DecidableEq, Repr

/-- What `W.POLL.a` takes: `snap` and `go` (44_tick_and_sync.md R228). -/
structure PollSnap where
  acc : Code
  cnt : Count
  last : Nat
  go : Bool
  deriving DecidableEq, Repr

/-- Which operation a `W.POLL` was performed for: by itself, or as the first part of `SM.CRED`. -/
inductive PollCaller where
  | alone
  | cred
  deriving DecidableEq, Repr

/-- An open non-atomic `W.POLL`: what `W.POLL.a` took, and what the operation that contains it read at its start and
still needs (44_tick_and_sync.md R228, 30_encoding.md R103). -/
structure PollWindow where
  snap : PollSnap
  caller : PollCaller
  now : Nat
  auth : AuthWord
  deriving DecidableEq, Repr

/-- What a micro-operation driven alone returns (40_wiegand_decoder.md R126, 41_motor_ramp.md R140, R144). -/
inductive OpResult where
  | none
  | frame (f : Option Frame)
  | duty (d : Duty)
  | command (m : MotorCommand)
  deriving DecidableEq, Repr

/-- The whole state. The fields from `w` to `cfg` are the registers of 10_state.md; `ports`, `inbox` and `window` are
the input side; `conditions`, `noted`, `result` and `draws` are the model's own (notes/assumptions/6.md, 8.md, 7.md, 3.md). -/
structure State where
  /-- `W_ACC`, `W_CNT`, `W_LAST`. -/
  w : InProgress
  /-- `F_CODE`, `F_BITS`, `F_AT`, `F_AVAIL`. -/
  f : FrameBuffer
  /-- `STATE`. -/
  door : DoorState
  /-- `PHASE_AT`. -/
  phaseAt : Nat
  /-- `MOTOR_AT`. -/
  motorAt : Nat
  /-- `NOSW_SINCE`. -/
  noswSince : Option Nat
  /-- `ATTR`. -/
  attr : Label
  /-- `DIAG_CODE`, `DIAG_BITS`. -/
  diag : Diag
  /-- `PWM_A`, `PWM_B`. -/
  pwm : MotorCommand
  /-- `M_MEL`, `M_INDEX`, `M_NOTE_AT`, `M_DUR`, `M_PLAYING`, `BUZ`. -/
  player : Player
  /-- `NOTIFY`, oldest first. -/
  notify : List (DoorState × Label)
  /-- `DB_OUT`, `DB_RAW`, `DB_SINCE`. -/
  db : Conditioning
  /-- `Cfg`, as the last `RESET` latched it. -/
  cfg : Cfg
  /-- The input ports as the last operation read them; `ports.now` is the `now` of that operation. -/
  ports : Ports
  /-- The operations presented and not yet performed, in their total order (20_memory.md R69). -/
  inbox : List Event
  /-- The open half of a `W.POLL` with `POLL_ATOMIC = false`. -/
  window : Option PollWindow
  /-- The handled conditions raised since reset, oldest first. -/
  conditions : List Condition
  /-- The conditions noted since reset without a `raise` of the operation's rule, oldest first: `Overlong`. -/
  noted : List Condition
  /-- The result of the last `W.TAKE`, `M.RAMP` or `M.CMD` driven alone. -/
  result : OpResult
  /-- How many resets have drawn their unspecified values. -/
  draws : Nat
  deriving DecidableEq, Repr

/-- No fault exists: "Every operation of the CORE completes; none returns an error; none faults"
(60_exceptions.md R260). The type is closed and empty. -/
inductive Fault where
  deriving DecidableEq, Repr

/-- Why a run is refused: the spec gives the situation no transition (93_implementation_defined.md section 2). Every
refusal is safe: the model stops where the spec has no behaviour. -/
inductive Refusal where
  /-- An operation without a meaning; raised by no arm of `exec`. Safe. -/
  | notModelled (mnemonic : String)
  /-- Raised by `acceptEvent`: a reserved event word (30_encoding.md R105, V3). Safe. -/
  | reservedWord (ev : EventWord)
  /-- Raised by `SM.ENTER` and `M.CMD`: a state code 9..15 as operand (30_encoding.md R105, V3). Safe. -/
  | reservedStateCode (code : BitVec 4)
  /-- Raised by `SM.CRED`, alone or in `TICK`, when a frame is taken: `AUTH` code 3 (30_encoding.md R105, V3). Safe. -/
  | reservedAuthCode
  /-- Raised by `RESET`: a configuration that breaks a premise of 00_scope.md R9 (V4). Safe. -/
  | illFormedConfig
  /-- Raised by `acceptEvent`: `now` is smaller than at the previous operation (00_scope.md R11, V8). Safe. -/
  | timeWentBack
  /-- Raised by `acceptEvent`: an operation from the wrong context (60_exceptions.md R275, V6). Safe. -/
  | wrongContext
  deriving DecidableEq, Repr

/-- The conditioning registers of one switch after a reset at `now` (10_state.md R40). -/
def Debounce.atReset (now : Nat) : Debounce := ⟨false, false, now⟩

/-- The ports of `State.reset`. DESIGN CHOICE, unsafe (notes/assumptions/4.md): the spec gives an input no reset value. -/
def Ports.powerOn : Ports where
  now := 0
  sw := ⟨false, false, false⟩
  label := ""
  auth := ⟨0#2, ""⟩
  sel := ""
  elapsed := 0
  target := 0#8
  stateCode := 0#4
  cfg := Config.powerOn

/-- The machine right after the first `RESET`, at `now = 0`, with the configuration `Config.powerOn`
(70_reset_and_hazards.md R300, R301). -/
def State.reset : State where
  w := ⟨0#32, 0#8, Config.wLastAtReset 0⟩
  f := ⟨Config.fCodeAtReset 0, Config.fBitsAtReset 0, Config.fAtAtReset 0, false⟩
  door := .locked
  phaseAt := Config.phaseAtAtReset 0
  motorAt := Config.motorAtAtReset 0
  noswSince := none
  attr := ""
  diag := ⟨0#32, 0#8⟩
  pwm := ⟨255#8, 255#8⟩
  player := ⟨Config.powerOn.defaultMelody, 0, Config.mNoteAtAtReset 0, 0, false, .silent⟩
  notify := []
  db := ⟨Debounce.atReset 0, Debounce.atReset 0, Debounce.atReset 0⟩
  cfg := Config.powerOn
  ports := Ports.powerOn
  inbox := []
  window := none
  conditions := []
  noted := []
  result := .none
  draws := 1

end Sys2Proof.Machine
end

