-- ==== Sys2Proof/Machine/Operands.lean ====
section
/-! DEFINITION. The operands and coded values of the operations: state codes, `AUTH` answers, packed forms, LED
levels, agents (30_encoding.md R96 to R103, 60_exceptions.md R275). -/

namespace Sys2Proof.Machine

/-- The 4-bit code of a door state (30_encoding.md R96). -/
def doorCode : DoorState → BitVec 4
  | .locked => 0#4
  | .preOpeningToParcel => 1#4
  | .openingToParcel => 2#4
  | .parcelOpen => 3#4
  | .preOpeningToMail => 4#4
  | .openingToMail => 5#4
  | .mailOpen => 6#4
  | .locking => 7#4
  | .motorError => 8#4

/-- The door state of a code; codes 9 to 15 are reserved (30_encoding.md R96, R105). -/
def doorOfCode (code : BitVec 4) : Option DoorState :=
  match code with
  | 0#4 => some .locked
  | 1#4 => some .preOpeningToParcel
  | 2#4 => some .openingToParcel
  | 3#4 => some .parcelOpen
  | 4#4 => some .preOpeningToMail
  | 5#4 => some .openingToMail
  | 6#4 => some .mailOpen
  | 7#4 => some .locking
  | 8#4 => some .motorError
  | _ => none

/-- The published name of a door state, "the identifier exactly as spelled" (30_encoding.md R96, decision D11). -/
def doorName : DoorState → String
  | .locked => "Locked"
  | .preOpeningToParcel => "PreOpeningToParcel"
  | .openingToParcel => "OpeningToParcel"
  | .parcelOpen => "ParcelOpen"
  | .preOpeningToMail => "PreOpeningToMail"
  | .openingToMail => "OpeningToMail"
  | .mailOpen => "MailOpen"
  | .locking => "Locking"
  | .motorError => "MotorError"

/-- The `AUTH` answer of a code and label; code 3 is reserved (30_encoding.md R101). -/
def authAnswer (a : AuthWord) : Option AuthAnswer :=
  match a.code with
  | 0#2 => some .noMatch
  | 1#2 => some (.owner a.label)
  | 2#2 => some (.delivery a.label)
  | _ => none

/-- The packed 40-bit frame `FRAME[39:32] = bit_count`, `FRAME[31:0] = code` (30_encoding.md R98). -/
def packFrame (f : Frame) : BitVec 40 := f.bitCount ++ f.code

/-- The 16-bit motor command word `MC` (30_encoding.md R99). -/
def packCommand (m : MotorCommand) : BitVec 16 := m.a ++ m.b

/-- The packed ROM entry `ENTRY[23:8] = frequency`, `ENTRY[7:0] = tempo_divisor` (30_encoding.md R100). -/
def packNote (n : Note) : BitVec 24 := BitVec.ofNat 16 n.frequency ++ BitVec.ofNat 8 n.tempoDivisor

/-- A duty number as an 8-bit register value; a well-formed configuration has no duty above 255 (00_scope.md R9 (a)). -/
def toDuty (n : Nat) : Duty := BitVec.ofNat 8 n

/-- `LED_MAP(state)` (10_state.md R33, 42_door_state_machine.md R186). -/
def ledLevels (m : LedMap) : DoorState → Leds
  | .locked => m.locked
  | .preOpeningToParcel => m.preOpeningToParcel
  | .openingToParcel => m.openingToParcel
  | .parcelOpen => m.parcelOpen
  | .preOpeningToMail => m.preOpeningToMail
  | .openingToMail => m.openingToMail
  | .mailOpen => m.mailOpen
  | .locking => m.locking
  | .motorError => m.motorError

/-- The outputs `(LED_G, LED_R)`: at every instant `LED_MAP(STATE)` (10_state.md R33). -/
def leds (s : State) : Leds := ledLevels s.cfg.ledMap s.door

/-- `FMT(code, bits)` (00_scope.md R8, 10_state.md R31). -/
def formatCode (f : Formatter) (code : Code) (bits : Count) : String := (f.entries.lookup (code, bits)).getD f.otherwise

/-- The diagnostic read-back string `FMT(DIAG_CODE, DIAG_BITS)` (10_state.md R31). -/
def diagString (s : State) : String := formatCode s.cfg.fmt s.diag.code s.diag.bits

/-- The agent whose operation this is; `none` for the micro-operations, "never presented at the boundary by an
agent" (30_encoding.md R90, 60_exceptions.md R275). -/
def ownerOf : Instr → Option Agent
  | .edge0 => some .irq
  | .edge1 => some .irq
  | .reqOpenParcel => some .host
  | .reqOpenMail => some .host
  | .reqClose => some .host
  | .tick _ _ _ => some .loop
  | .dbSample => none
  | .smTimed => none
  | .mWrite => none
  | .sTick => none
  | .smSwitch => none
  | .smCred => none
  | .wPoll => none
  | .wTake => none
  | .sStart => none
  | .mRamp => none
  | .smEnter => none
  | .mCmd => none
  | .reset => some .environment

/-- Each agent has only its own operations (60_exceptions.md R275); the test harness, which plays the agents and may
"drive one component alone" (30_encoding.md R90), has all. -/
def mayPerform (a : Agent) (i : Instr) : Bool :=
  decide (a = .harness) || decide (ownerOf i = some a)

/-- An edge operation, the only one that may fall inside a `W.POLL` (44_tick_and_sync.md R228). -/
def isEdge : Instr → Bool
  | .edge0 => true
  | .edge1 => true
  | .reqOpenParcel => false
  | .reqOpenMail => false
  | .reqClose => false
  | .tick _ _ _ => false
  | .dbSample => false
  | .smTimed => false
  | .mWrite => false
  | .sTick => false
  | .smSwitch => false
  | .smCred => false
  | .wPoll => false
  | .wTake => false
  | .sStart => false
  | .mRamp => false
  | .smEnter => false
  | .mCmd => false
  | .reset => false

end Sys2Proof.Machine
end

