-- ==== Sys2Proof/Machine/Flags.lean ====
section
/-! DEFINITION. The flags, derived predicates and time comparisons of the CORE (10_state.md R46, 00_scope.md R15 (d)). -/

namespace Sys2Proof.Machine

/-- "an in-progress frame exists": `W_CNT != 0` (10_state.md R22). -/
def frameInProgress (w : InProgress) : Bool := decide (w.cnt ≠ 0#8)

/-- More than `QUIET_MS` of silence since the last edge (40_wiegand_decoder.md R124). -/
def quietOver (c : Cfg) (w : InProgress) (now : Nat) : Bool := decide (now - w.last > c.quietMs)

/-- The motor-driving states (00_scope.md glossary, 42_door_state_machine.md R160). -/
def isMotorDriving : DoorState → Bool
  | .openingToParcel => true
  | .openingToMail => true
  | .locking => true
  | .locked => false
  | .preOpeningToParcel => false
  | .parcelOpen => false
  | .preOpeningToMail => false
  | .mailOpen => false
  | .motorError => false

/-- The open states (00_scope.md glossary). -/
def isOpen : DoorState → Bool
  | .parcelOpen => true
  | .mailOpen => true
  | .locked => false
  | .preOpeningToParcel => false
  | .openingToParcel => false
  | .preOpeningToMail => false
  | .openingToMail => false
  | .locking => false
  | .motorError => false

/-- Phase age above the pre-opening delay (42_door_state_machine.md R167, R168). -/
def openingDelayOver (s : State) (now : Nat) : Bool := decide (now - s.phaseAt > s.cfg.openingDelayMs)

/-- Motor age above the motor timeout (42_door_state_machine.md R169). -/
def motorTimeoutOver (s : State) (now : Nat) : Bool := decide (now - s.motorAt > s.cfg.motorTimeoutMs)

/-- Phase age above the dwell (42_door_state_machine.md R170). -/
def dwellOver (s : State) (now : Nat) : Bool := decide (now - s.phaseAt > s.cfg.openDwellMs)

/-- `NOSW_SINCE = some t` and `now - t > INACTIVITY_MS` (42_door_state_machine.md R166). -/
def inactive (s : State) (now : Nat) : Bool :=
  match s.noswSince with
  | some t => decide (now - t > s.cfg.inactivityMs)
  | none => false

/-- The note's window is over: `5 * elapsed > 6 * M_DUR` (43_melody_sequencer.md R205). -/
def noteWindowOver (p : Player) (now : Nat) : Bool :=
  decide (Config.gapDen * (now - p.noteAt) > Config.gapNum * p.dur)

/-- What a listener hears: `sounding(now)` (43_melody_sequencer.md R206, "given for orientation"). -/
def sounding (p : Player) (now : Nat) : Bool :=
  match p.buz with
  | .tone _ dur => decide (now - p.noteAt < dur)
  | .silent => false

/-- Some conditioned switch level reads engaged (42_door_state_machine.md R174). -/
def anyEngaged (d : Conditioning) : Bool := d.closed.out || d.parcel.out || d.mail.out

end Sys2Proof.Machine
end

