-- ==== Sys2Proof/Machine/Ops.lean ====
section
/-! DEFINITION. The named operations the meanings share: bit arithmetic, raising or noting a handled condition, performing a
transition, reading the note ROM, the reset values (00_scope.md R10 to R15, 42_door_state_machine.md R160,
20_memory.md R61, 70_reset_and_hazards.md R301). -/

namespace Sys2Proof.Machine

/-- `sat_8(c + 1)`: the bit counter stays at 255 (00_scope.md R15 (b)). -/
def satInc (c : Count) : Count := if c = 255#8 then 255#8 else c + 1#8

/-- `trunc_32((acc << 1) | b)` (00_scope.md R15 (a)). -/
def shiftIn (acc : Code) (b : Bool) : Code := (acc <<< 1) ||| (BitVec.ofBool b).setWidth 32

/-- `raise`: records that a handled condition happened; "it never transfers control and changes no state by itself"
(00_scope.md R12, 60_exceptions.md R260). The record is the model's own trace (notes/assumptions/6.md). -/
def raise (c : Condition) (s : State) : State := { s with conditions := s.conditions ++ [c] }

/-- Notes a condition that 60_exceptions.md R261 lists for an operation whose own rule raises none
(notes/assumptions/8.md). The note is the model's own trace, like that of `raise`, and changes nothing else. -/
def note (c : Condition) (s : State) : State := { s with noted := s.noted ++ [c] }

/-- `enter(target)`: perform a realized transition (42_door_state_machine.md R160). -/
def enter (target : DoorState) (now : Nat) (s : State) : State :=
  { s with
    door := target
    phaseAt := now
    motorAt := if isMotorDriving target then now else s.motorAt
    notify := s.notify ++ [(target, s.attr)] }

/-- `MemRead(i, 1)`: entry `i` of the latched melody, `none` at or beyond its length (20_memory.md R61). -/
def memRead (m : Melody) (i : Nat) : Option Note := m.notes[i]?

/-- `lookup(sel)`: the table's melody, or the default tune (43_melody_sequencer.md R200). -/
def lookupMelody (c : Cfg) (sel : Selection) : Melody := (c.melodyTable.lookup sel).getD c.defaultMelody

/-- `dur(mel, i)` of an entry: `floor(whole_note_ms / tempo_divisor)` (43_melody_sequencer.md R201). -/
def noteDuration (m : Melody) (n : Note) : Nat := m.wholeNoteMs / n.tempoDivisor

/-- The player sounding entry `n` at position `i` from `now` on (43_melody_sequencer.md R202, R204). -/
def soundNote (p : Player) (i : Nat) (n : Note) (now : Nat) : Player :=
  { p with
    index := i
    noteAt := now
    dur := noteDuration p.mel n
    playing := true
    buz := .tone n.frequency (noteDuration p.mel n) }

/-- The registers after a `RESET` at `now` that latches `c` (70_reset_and_hazards.md R301). The seven unspecified
registers take a fresh draw; the operations still to come stay presented. -/
def resetRegisters (c : Cfg) (now : Nat) (s : State) : State where
  w := ⟨0#32, 0#8, Config.wLastAtReset s.draws⟩
  f := ⟨Config.fCodeAtReset s.draws, Config.fBitsAtReset s.draws, Config.fAtAtReset s.draws, false⟩
  door := .locked
  phaseAt := Config.phaseAtAtReset s.draws
  motorAt := Config.motorAtAtReset s.draws
  noswSince := none
  attr := ""
  diag := ⟨0#32, 0#8⟩
  pwm := ⟨255#8, 255#8⟩
  player := ⟨c.defaultMelody, 0, Config.mNoteAtAtReset s.draws, 0, false, .silent⟩
  notify := []
  db := ⟨Debounce.atReset now, Debounce.atReset now, Debounce.atReset now⟩
  cfg := c
  ports := s.ports
  inbox := s.inbox
  window := none
  conditions := []
  noted := []
  result := .none
  draws := s.draws + 1

end Sys2Proof.Machine
end

