-- ==== Sys2Proof/Machine/Conditioning.lean ====
section
/-! DEFINITION. The switch conditioning stage: DB.SAMPLE (45_switch_debounce.md). -/

namespace Sys2Proof.Machine

/-- Step 1 of `DB.SAMPLE` for one switch: the raw sample and the time it last changed (45_switch_debounce.md R240). -/
def sampleRaw (raw : Bool) (now : Nat) (d : Debounce) : Debounce :=
  if raw = d.raw then d else { d with raw := raw, since := now }

/-- Step 2 of `DB.SAMPLE` for one switch: the conditioned level follows (45_switch_debounce.md R240). -/
def settle (debounceMs : Nat) (now : Nat) (d : Debounce) : Debounce :=
  if d.raw ≠ d.out ∧ now - d.since ≥ debounceMs then { d with out := d.raw } else d

/-- `DB.SAMPLE` for one switch (45_switch_debounce.md R240). -/
def sampleSwitch (debounceMs : Nat) (raw : Bool) (now : Nat) (d : Debounce) : Debounce :=
  settle debounceMs now (sampleRaw raw now d)

/-- `DB.SAMPLE(c, p, m)`: the three switches independently (45_switch_debounce.md R240, R241 (c)). -/
def sampleSwitches (l : Levels) (now : Nat) (s : State) : State :=
  { s with
    db :=
      { closed := sampleSwitch s.cfg.debounceMs l.closed now s.db.closed
        parcel := sampleSwitch s.cfg.debounceMs l.parcel now s.db.parcel
        mail := sampleSwitch s.cfg.debounceMs l.mail now s.db.mail } }

/-- DB.SAMPLE driven alone: the levels stand on the switch ports (45_switch_debounce.md R240, 10_state.md R41). -/
def execDbSample (s : State) : Host.Outcome State Fault Refusal := .next (sampleSwitches s.ports.sw s.ports.now s)

end Sys2Proof.Machine
end

