-- ==== Sys2Proof/Machine/Melody.lean ====
section
/-! DEFINITION. The tone sequencer: S.START, S.TICK (43_melody_sequencer.md). -/

namespace Sys2Proof.Machine

/-- The player after `S.START` latches `m` at `now` (43_melody_sequencer.md R202). An empty melody plays nothing and
leaves `M_NOTE_AT` as it was. -/
def startPlayer (m : Melody) (now : Nat) (p : Player) : Player :=
  match memRead m 0 with
  | some n => soundNote { p with mel := m } 0 n now
  | none => { p with mel := m, index := 0, dur := 0, playing := false, buz := .silent }

/-- `S.START(sel)` (43_melody_sequencer.md R202). -/
def startMelody (sel : Selection) (now : Nat) (s : State) : State :=
  { s with player := startPlayer (lookupMelody s.cfg sel) now s.player }

/-- The player after `S.TICK` at `now` (43_melody_sequencer.md R204). `memRead` answers an entry exactly when
`M_INDEX + 1 < length(M_MEL.notes)`. -/
def tickPlayer (now : Nat) (p : Player) : Player :=
  if p.playing && noteWindowOver p now then
    match memRead p.mel (p.index + 1) with
    | some n => soundNote p (p.index + 1) n now
    | none => { p with index := p.index + 1, playing := false, buz := .silent }
  else p

/-- `S.TICK` (43_melody_sequencer.md R204). -/
def tickMelody (now : Nat) (s : State) : State := { s with player := tickPlayer now s.player }

/-- S.START: ambient `sel` (43_melody_sequencer.md R202). -/
def execSStart (s : State) : Host.Outcome State Fault Refusal := .next (startMelody s.ports.sel s.ports.now s)

/-- S.TICK (43_melody_sequencer.md R204). -/
def execSTick (s : State) : Host.Outcome State Fault Refusal := .next (tickMelody s.ports.now s)

end Sys2Proof.Machine
end

