-- ==== Sys2Proof/Machine/Wiegand.lean ====
section
/-! DEFINITION. The Wiegand decoder: EDGE0, EDGE1, W.POLL, W.TAKE (40_wiegand_decoder.md, 44_tick_and_sync.md R228). -/

namespace Sys2Proof.Machine

/-- The in-progress group after an edge with bit `b` (40_wiegand_decoder.md R120). -/
def edgeGroup (b : Bool) (now : Nat) (w : InProgress) : InProgress where
  acc := if w.cnt.toNat < Config.accBits then shiftIn w.acc b else w.acc
  cnt := satInc w.cnt
  last := now

/-- `edge(b)` (40_wiegand_decoder.md R120). It raises no condition (R121, R122); an edge with `W_CNT >= 32` is noted as
`Overlong` (60_exceptions.md R261 row 7; notes/assumptions/8.md). -/
def edge (b : Bool) (now : Nat) (s : State) : State :=
  let t := { s with w := edgeGroup b now s.w }
  if s.w.cnt.toNat < Config.accBits then t else note (.overlong (satInc s.w.cnt)) t

/-- `W.POLL.a`: what a poll takes at `now` (44_tick_and_sync.md R228). -/
def pollSnap (now : Nat) (s : State) : PollSnap where
  acc := s.w.acc
  cnt := s.w.cnt
  last := s.w.last
  go := frameInProgress s.w && quietOver s.cfg s.w now

/-- Publishing a finalized frame in the frame buffer, over any unretrieved one (40_wiegand_decoder.md R124). -/
def publish (p : PollSnap) (s : State) : State :=
  let t := if s.f.avail then raise .frameOverwrite s else s
  { t with f := ⟨p.acc, p.cnt, p.last, true⟩ }

/-- `W.POLL.b`: finalize what the poll took (40_wiegand_decoder.md R124, 44_tick_and_sync.md R228). -/
def pollCommit (p : PollSnap) (s : State) : State :=
  if p.go then
    let t := if s.cfg.minBits ≤ p.cnt.toNat then publish p s else raise (.shortFrame p.cnt) s
    { t with w := { t.w with acc := 0#32, cnt := 0#8 } }
  else s

/-- `W.POLL` with `POLL_ATOMIC = true`: one step (40_wiegand_decoder.md R124). -/
def poll (now : Nat) (s : State) : State := pollCommit (pollSnap now s) s

/-- `W.POLL` with `POLL_ATOMIC = false`, up to the point where edges may be interleaved (44_tick_and_sync.md R228). -/
def openPoll (caller : PollCaller) (now : Nat) (auth : AuthWord) (s : State) : State :=
  { s with window := some ⟨pollSnap now s, caller, now, auth⟩ }

/-- `W.TAKE`: the frame, if one is available, and the state after the read (40_wiegand_decoder.md R126). -/
def take (s : State) : Option Frame × State :=
  if s.f.avail then
    (some ⟨s.f.code, s.f.bits, s.f.at_⟩, { s with f := { s.f with avail := false } })
  else (none, s)

/-- EDGE0 (40_wiegand_decoder.md R121). -/
def execEdge0 (s : State) : Host.Outcome State Fault Refusal := .next (edge false s.ports.now s)

/-- EDGE1 (40_wiegand_decoder.md R122). -/
def execEdge1 (s : State) : Host.Outcome State Fault Refusal := .next (edge true s.ports.now s)

/-- W.POLL (40_wiegand_decoder.md R124; 44_tick_and_sync.md R228 for `POLL_ATOMIC = false`). -/
def execWPoll (s : State) : Host.Outcome State Fault Refusal :=
  if s.cfg.pollAtomic then .next (poll s.ports.now s)
  else .next (openPoll .alone s.ports.now s.ports.auth s)

/-- W.TAKE (40_wiegand_decoder.md R126). -/
def execWTake (s : State) : Host.Outcome State Fault Refusal :=
  .next { (take s).2 with result := .frame (take s).1 }

end Sys2Proof.Machine
end

