-- ==== Sys2Proof/Machine/Door.lean ====
section
/-! DEFINITION. The door state machine: SM.ENTER, the requests, SM.TIMED, SM.SWITCH, SM.CRED
(42_door_state_machine.md). -/

namespace Sys2Proof.Machine

/-- The pre-opening state of a kind (42_door_state_machine.md R161). -/
def preOpening : Kind → DoorState
  | .parcel => .preOpeningToParcel
  | .mail => .preOpeningToMail

/-- `open_request(kind, label)` (42_door_state_machine.md R161): only from `Locked`; the label is recorded before
`enter`, so that the notification carries it. -/
def openRequest (kind : Kind) (label : Label) (now : Nat) (s : State) : State :=
  if s.door = .locked then
    enter (preOpening kind) now (startMelody s.cfg.melodySelect now { s with attr := label })
  else raise .ignoredRequest s

/-- `REQ_CLOSE` (42_door_state_machine.md R164). -/
def closeRequest (now : Nat) (s : State) : State :=
  if isOpen s.door then enter .locking now s else raise .ignoredRequest s

/-- `SM.TIMED`, step 1 of the tick: one arm, at most one `enter` (42_door_state_machine.md R166 to R171). -/
def timed (now : Nat) (s : State) : State :=
  match s.door with
  | .preOpeningToParcel => if openingDelayOver s now then enter .openingToParcel now s else s
  | .preOpeningToMail => if openingDelayOver s now then enter .openingToMail now s else s
  | .openingToParcel => if motorTimeoutOver s now then enter .motorError now (raise (.motorTimeout .openingToParcel) s) else s
  | .openingToMail => if motorTimeoutOver s now then enter .motorError now (raise (.motorTimeout .openingToMail) s) else s
  | .locking => if motorTimeoutOver s now then enter .motorError now (raise (.motorTimeout .locking) s) else s
  | .parcelOpen =>
    if dwellOver s now then enter .locking now s
    else if inactive s now then enter .locking now (raise .failSafeRelock s) else s
  | .mailOpen =>
    if dwellOver s now then enter .locking now s
    else if inactive s now then enter .locking now (raise .failSafeRelock s) else s
  | .locked => if inactive s now then enter .locking now (raise .failSafeRelock s) else s
  | .motorError => s

/-- The maintenance of `NOSW_SINCE` (42_door_state_machine.md R178). -/
def nextNosw (engaged : Bool) (now : Nat) (since : Option Nat) : Option Nat :=
  if engaged then none else some (since.getD now)

/-- The transitions of `SM.SWITCH` part 2, on the conditioned levels (42_door_state_machine.md R175 to R177, R179). -/
def switchTransition (now : Nat) (s : State) : State :=
  match s.door with
  | .openingToParcel => if s.db.parcel.out then enter .parcelOpen now s else s
  | .openingToMail => if s.db.mail.out then enter .mailOpen now s else s
  | .locking => if s.db.closed.out then enter .locked now s else s
  | .locked => s
  | .preOpeningToParcel => s
  | .preOpeningToMail => s
  | .parcelOpen => s
  | .mailOpen => s
  | .motorError => s

/-- Part 1 of `SM.SWITCH` (42_door_state_machine.md R174, R178). -/
def recordNosw (now : Nat) (s : State) : State :=
  { s with noswSince := nextNosw (anyEngaged s.db) now s.noswSince }

/-- `SM.SWITCH`, step 4 of the tick (42_door_state_machine.md R174). -/
def switches (now : Nat) (s : State) : State := switchTransition now (recordNosw now s)

/-- What the collaborator's answer to a taken frame does (42_door_state_machine.md R180): an owner opens the mail
position, a delivery credential the parcel position, no match is logged. -/
def applyAuth (answer : AuthAnswer) (fr : Frame) (now : Nat) (s : State) : State :=
  match answer with
  | .owner label => openRequest .mail label now s
  | .delivery label => openRequest .parcel label now s
  | .noMatch => raise (.noMatch fr.code fr.bitCount) s

/-- The part of `SM.CRED` after its `W.POLL`: take a frame and apply the answer (42_door_state_machine.md R180). The
answer is looked at only if a frame is taken (30_encoding.md R94); code 3 is then refused (30_encoding.md R105). -/
def takeAndAuthorize (now : Nat) (auth : AuthWord) (s : State) : Host.Outcome State Fault Refusal :=
  match take s with
  | (none, t) => .next t
  | (some fr, t) =>
    match authAnswer auth with
    | some answer => .next (applyAuth answer fr now { t with diag := ⟨fr.code, fr.bitCount⟩ })
    | none => .refused .reservedAuthCode

/-- `SM.CRED(auth)`, step 5 of the tick: only in `Locked` (42_door_state_machine.md R180). With
`POLL_ATOMIC = false` the operation stops in the middle of its `W.POLL` and `closePoll` completes it. -/
def cred (now : Nat) (auth : AuthWord) (s : State) : Host.Outcome State Fault Refusal :=
  if s.door = .locked then
    if s.cfg.pollAtomic then takeAndAuthorize now auth (poll now s)
    else .next (openPoll .cred now auth s)
  else .next s

/-- The completion of an open `W.POLL`: `W.POLL.b`, and for `SM.CRED` what follows it (44_tick_and_sync.md R228). -/
def closePoll (p : PollWindow) (s : State) : Host.Outcome State Fault Refusal :=
  match p.caller with
  | .alone => .next (pollCommit p.snap { s with window := none })
  | .cred => takeAndAuthorize p.now p.auth (pollCommit p.snap { s with window := none })

/-- SM.ENTER driven alone: ambient target state (42_door_state_machine.md R160). -/
def execSmEnter (s : State) : Host.Outcome State Fault Refusal :=
  match doorOfCode s.ports.stateCode with
  | some st => .next (enter st s.ports.now s)
  | none => .refused (.reservedStateCode s.ports.stateCode)

/-- REQ_OPEN_PARCEL: ambient `label` (42_door_state_machine.md R162). -/
def execReqOpenParcel (s : State) : Host.Outcome State Fault Refusal :=
  .next (openRequest .parcel s.ports.label s.ports.now s)

/-- REQ_OPEN_MAIL: ambient `label` (42_door_state_machine.md R163). -/
def execReqOpenMail (s : State) : Host.Outcome State Fault Refusal :=
  .next (openRequest .mail s.ports.label s.ports.now s)

/-- REQ_CLOSE (42_door_state_machine.md R164). -/
def execReqClose (s : State) : Host.Outcome State Fault Refusal := .next (closeRequest s.ports.now s)

/-- SM.TIMED (42_door_state_machine.md R166). -/
def execSmTimed (s : State) : Host.Outcome State Fault Refusal := .next (timed s.ports.now s)

/-- SM.SWITCH (42_door_state_machine.md R174). -/
def execSmSwitch (s : State) : Host.Outcome State Fault Refusal := .next (switches s.ports.now s)

/-- SM.CRED: ambient `auth` (42_door_state_machine.md R180). -/
def execSmCred (s : State) : Host.Outcome State Fault Refusal := cred s.ports.now s.ports.auth s

end Sys2Proof.Machine
end

