-- ==== Sys2Proof/Machine/Motor.lean ====
section
/-! DEFINITION. The motor ramp generator: M.RAMP, M.CMD, M.WRITE (41_motor_ramp.md). -/

namespace Sys2Proof.Machine

/-- `M.RAMP(elapsed, target)`, the duty-cycle envelope (41_motor_ramp.md R140). -/
def ramp (c : Cfg) (elapsed : Nat) (target : Nat) : Nat :=
  if elapsed < c.fullPowerMs then c.breakawayDuty
  else if elapsed < c.fullPowerMs + c.rampMs then
    if target ≤ c.breakawayDuty then
      c.breakawayDuty - (c.breakawayDuty - target) * (elapsed - c.fullPowerMs) / c.rampMs
    else
      c.breakawayDuty + (target - c.breakawayDuty) * (elapsed - c.fullPowerMs) / c.rampMs
  else target

/-- `(BRAKE, BRAKE)`, the command of every non-driving state (41_motor_ramp.md R144). -/
def brakeCommand (c : Cfg) : MotorCommand := ⟨toDuty c.brake, toDuty c.brake⟩

/-- `M.CMD(state, elapsed)`: channel A drives in the opening states, channel B in `Locking`, all other states brake
(41_motor_ramp.md R144). -/
def command (c : Cfg) (st : DoorState) (elapsed : Nat) : MotorCommand :=
  match st with
  | .openingToParcel => ⟨toDuty (ramp c elapsed c.dutyOpen), 0#8⟩
  | .openingToMail => ⟨toDuty (ramp c elapsed c.dutyOpen), 0#8⟩
  | .locking => ⟨0#8, toDuty (ramp c elapsed c.dutyClose)⟩
  | .locked => brakeCommand c
  | .preOpeningToParcel => brakeCommand c
  | .preOpeningToMail => brakeCommand c
  | .parcelOpen => brakeCommand c
  | .mailOpen => brakeCommand c
  | .motorError => brakeCommand c

/-- `M.WRITE`: both PWM registers in one step (41_motor_ramp.md R146, 20_memory.md R68). -/
def writeMotor (now : Nat) (s : State) : State := { s with pwm := command s.cfg s.door (now - s.motorAt) }

/-- M.RAMP driven alone: ambient `elapsed`, `target` (41_motor_ramp.md R140). -/
def execMRamp (s : State) : Host.Outcome State Fault Refusal :=
  .next { s with result := .duty (toDuty (ramp s.cfg s.ports.elapsed s.ports.target.toNat)) }

/-- M.CMD driven alone: ambient state and `elapsed` (41_motor_ramp.md R144). -/
def execMCmd (s : State) : Host.Outcome State Fault Refusal :=
  match doorOfCode s.ports.stateCode with
  | some st => .next { s with result := .command (command s.cfg st s.ports.elapsed) }
  | none => .refused (.reservedStateCode s.ports.stateCode)

/-- M.WRITE (41_motor_ramp.md R146). -/
def execMWrite (s : State) : Host.Outcome State Fault Refusal := .next (writeMotor s.ports.now s)

end Sys2Proof.Machine
end

