-- ==== Sys2Proof/Machine/Tick.lean ====
section
/-! DEFINITION. The control-loop tick and the reset: TICK, RESET (44_tick_and_sync.md R220, 70_reset_and_hazards.md R300). -/

namespace Sys2Proof.Machine

/-- Steps 0 to 4 of a tick, all reading the same `now`, each seeing the state left by the one before
(44_tick_and_sync.md R220). -/
def tickFront (l : Levels) (now : Nat) (s : State) : State :=
  switches now (tickMelody now (writeMotor now (timed now (sampleSwitches l now s))))

/-- TICK: steps 0 to 5 (44_tick_and_sync.md R220). -/
def execTick (c p m : Bool) (s : State) : Host.Outcome State Fault Refusal :=
  cred s.ports.now s.ports.auth (tickFront ⟨c, p, m⟩ s.ports.now s)

/-- RESET: ambient `Cfg`, refused if it breaks a premise of 00_scope.md R9 (70_reset_and_hazards.md R300). -/
def execReset (s : State) : Host.Outcome State Fault Refusal :=
  if s.ports.cfg.wf then .next (resetRegisters s.ports.cfg s.ports.now s) else .refused .illFormedConfig

end Sys2Proof.Machine
end

