-- ==== Sys2Proof/Machine/Dispatch.lean ====
section
/-! DEFINITION. One arm per operation of 30_encoding.md R104. -/

namespace Sys2Proof.Machine

def exec (i : Instr) (s : State) : Host.Outcome State Fault Refusal :=
  match i with
  | .edge0 => Sys2Proof.Machine.execEdge0 s
  | .edge1 => Sys2Proof.Machine.execEdge1 s
  | .reqOpenParcel => Sys2Proof.Machine.execReqOpenParcel s
  | .reqOpenMail => Sys2Proof.Machine.execReqOpenMail s
  | .reqClose => Sys2Proof.Machine.execReqClose s
  | .tick c p m => Sys2Proof.Machine.execTick c p m s
  | .dbSample => Sys2Proof.Machine.execDbSample s
  | .smTimed => Sys2Proof.Machine.execSmTimed s
  | .mWrite => Sys2Proof.Machine.execMWrite s
  | .sTick => Sys2Proof.Machine.execSTick s
  | .smSwitch => Sys2Proof.Machine.execSmSwitch s
  | .smCred => Sys2Proof.Machine.execSmCred s
  | .wPoll => Sys2Proof.Machine.execWPoll s
  | .wTake => Sys2Proof.Machine.execWTake s
  | .sStart => Sys2Proof.Machine.execSStart s
  | .mRamp => Sys2Proof.Machine.execMRamp s
  | .smEnter => Sys2Proof.Machine.execSmEnter s
  | .mCmd => Sys2Proof.Machine.execMCmd s
  | .reset => Sys2Proof.Machine.execReset s

end Sys2Proof.Machine
end

