-- ==== Sys2Proof/Machine/Fetch.lean ====
section
/-! DEFINITION. Which operation comes next: the presented operations in their order, and the edges that fall inside
an open `W.POLL` (00_scope.md R14, 20_memory.md R69, 44_tick_and_sync.md R228). -/

namespace Sys2Proof.Machine

/-- What the next step does. -/
inductive Agenda where
  /-- No operation is presented. -/
  | idle
  /-- The open `W.POLL` is completed. -/
  | closePoll (p : PollWindow)
  /-- The first presented operation is performed. -/
  | perform (e : Event) (rest : List Event)
  deriving DecidableEq, Repr

/-- The event is an edge that the environment lets fall inside an open `W.POLL` (44_tick_and_sync.md R228). -/
def fallsInPoll (e : Event) : Bool :=
  e.duringPoll &&
    match decodeWord e.word with
    | .ok i => isEdge i
    | .error _ => false

/-- The next step's work: with a `W.POLL` open, the edges that fall inside it, then its completion; otherwise the
first presented operation. -/
def agenda (s : State) : Agenda :=
  match s.window, s.inbox with
  | none, [] => .idle
  | none, e :: rest => .perform e rest
  | some p, [] => .closePoll p
  | some p, e :: rest => if fallsInPoll e then .perform e rest else .closePoll p

/-- The operation of an event, or why it is refused: a reserved word (V3), the wrong context (V6), time running
backwards (V8). -/
def acceptEvent (e : Event) (s : State) : Except Refusal Instr :=
  match decodeWord e.word with
  | .error _ => .error (.reservedWord e.word)
  | .ok i =>
    if mayPerform e.source i then
      if s.ports.now ≤ e.ports.now then .ok i else .error .timeWentBack
    else .error .wrongContext

/-- The event's ambient operands are read, "once, at the start of the operation" (30_encoding.md R103), and the event
is consumed. -/
def present (e : Event) (rest : List Event) (s : State) : State := { s with inbox := rest, ports := e.ports }

/-- The event that presents word `v` from the harness with the operands now on the ports. -/
def wordEvent (v : Nat) (s : State) : Event := ⟨BitVec.ofNat 8 v, .harness, false, s.ports⟩

end Sys2Proof.Machine
end

