-- ==== Sys2Proof/Machine/Step.lean ====
section
/-! DEFINITION. One step of the machine: one operation, or the completion of an open `W.POLL` (00_scope.md R14). -/

namespace Sys2Proof.Machine

/-- One step. With nothing presented the CORE holds its state (notes/assumptions/9.md). -/
def step (s : State) : Host.Outcome State Fault Refusal :=
  match agenda s with
  | .idle => .next s
  | .closePoll p => closePoll p s
  | .perform e rest =>
    match acceptEvent e s with
    | .ok i => exec i (present e rest s)
    | .error r => .refused r

/-- `s` with the event word `w` presented first, by the harness and at the present time, and no `W.POLL` open
(notes/assumptions/10.md). -/
def State.withFetchWord (s : State) (nbits w : Nat) : State :=
  { s with inbox := wordEvent (w % 2 ^ nbits) s :: s.inbox, window := none }

end Sys2Proof.Machine
end

