-- ==== Sys2Proof/Safety.lean ====
section
/-! DEFINITION. What counts as a sound state and a sound run: the invariants of 10_state.md R50 in the model's terms. -/

namespace Sys2Proof.Machine

/-- (I1) "`W_CNT = 0` implies `W_ACC = 0`"; (I2) "if `0 < W_CNT <= 32` then `W_ACC < 2^W_CNT`" (10_state.md R50). -/
def AccumulatorSound (s : State) : Prop :=
  (s.w.cnt = 0#8 → s.w.acc = 0#32) ∧
    (0 < s.w.cnt.toNat → s.w.cnt.toNat ≤ 32 → s.w.acc.toNat < 2 ^ s.w.cnt.toNat)

/-- (I3) "`F_AVAIL = 1` implies `F_BITS >= MIN_BITS`" (10_state.md R50). -/
def BufferSound (s : State) : Prop := s.f.avail = true → s.cfg.minBits ≤ s.f.bits.toNat

/-- (I4) the command is `(255, 255)`, or one channel is 0 (10_state.md R50, 41_motor_ramp.md R148); or it is the brake
that `M.CMD` writes under another `BRAKE` (41_motor_ramp.md R144; notes/assumptions/11.md). -/
def MotorSound (s : State) : Prop :=
  s.pwm = ⟨255#8, 255#8⟩ ∨ (s.pwm.a.toNat = s.cfg.brake ∧ s.pwm.b.toNat = s.cfg.brake) ∨ s.pwm.a = 0#8 ∨ s.pwm.b = 0#8

/-- (I5) while a melody plays, the cursor is on an entry and the buzzer has that entry's tone (10_state.md R50). -/
def MelodySound (s : State) : Prop :=
  s.player.playing = true →
    ∃ n, s.player.mel.notes[s.player.index]? = some n ∧ s.player.buz = .tone n.frequency s.player.dur

/-- The latched configuration and the latched melody keep the premises of 00_scope.md R9. -/
def ConfigSound (s : State) : Prop := s.cfg.wf = true ∧ s.player.mel.wf = true

/-- The register invariants of 10_state.md R50 together. -/
structure RegistersSound (s : State) : Prop where
  accumulator : AccumulatorSound s
  buffer : BufferSound s
  motor : MotorSound s
  melody : MelodySound s
  config : ConfigSound s

/-- `NOTIFY` against `STATE`: every entry's state differs from the one before it, the first from `Locked`, and the
last is `STATE` (42_door_state_machine.md R185, 10_state.md R50 (I7)). -/
def NotifySound (s : State) : Prop :=
  (DoorState.locked :: s.notify.map Prod.fst).IsChain (· ≠ ·) ∧
    (DoorState.locked :: s.notify.map Prod.fst).getLast? = some s.door

/-- A run of at most `k` steps never stops (60_exceptions.md R260: nothing faults; a refusal is a run outside the
spec). -/
def runsFor : Nat → State → Prop
  | 0, _ => True
  | k + 1, s => ∃ t, step s = .next t ∧ runsFor k t

end Sys2Proof.Machine
end

