-- ==== Sys2Proof/Certificates/Slice0/Obligations.lean ====
section
/-! DEFINITION. The statements for the provers, written from the numbered rules of spec/. -/

namespace Sys2Proof.Claims

open Sys2Proof.Machine

/-! ### The vocabulary of the statements, spelled out from the rules -/

/-- `s` with its time port reading `t`. -/
def atTime (t : Nat) (s : State) : State := { s with ports := { s.ports with now := t } }

/-- `s` with the conditions `cs` raised. -/
def withRaised (cs : List Condition) (s : State) : State := { s with conditions := s.conditions ++ cs }

/-- `s` after a realized transition to `g` at `now` (42_door_state_machine.md R160). -/
def entered (g : DoorState) (now : Nat) (s : State) : State :=
  { s with
    door := g
    phaseAt := now
    motorAt := if g = .openingToParcel ∨ g = .openingToMail ∨ g = .locking then now else s.motorAt
    notify := s.notify ++ [(g, s.attr)] }

/-- The melody a selection name stands for (43_melody_sequencer.md R200). -/
def chosenMelody (c : Cfg) (sel : Selection) : Melody :=
  match c.melodyTable.find? (fun e => e.1 == sel) with
  | some e => e.2
  | none => c.defaultMelody

/-- The melody registers after `S.START` latches `m` at `now` (43_melody_sequencer.md R202). -/
def startedPlayer (m : Melody) (now : Nat) (p : Player) : Player :=
  match m.notes with
  | [] => { p with mel := m, index := 0, dur := 0, playing := false, buz := .silent }
  | n :: _ => ⟨m, 0, now, m.wholeNoteMs / n.tempoDivisor, true, .tone n.frequency (m.wholeNoteMs / n.tempoDivisor)⟩

/-- The melody registers after `S.TICK` at `now` (43_melody_sequencer.md R204, R205). -/
def tickedPlayer (now : Nat) (p : Player) : Player :=
  if p.playing = true ∧ 5 * (now - p.noteAt) > 6 * p.dur then
    match p.mel.notes[p.index + 1]? with
    | some n =>
      ⟨p.mel, p.index + 1, now, p.mel.wholeNoteMs / n.tempoDivisor, true,
        .tone n.frequency (p.mel.wholeNoteMs / n.tempoDivisor)⟩
    | none => { p with index := p.index + 1, playing := false, buz := .silent }
  else p

/-- `s` after an accepted open request with label `l` into the pre-opening state `g` (42_door_state_machine.md R161). -/
def opened (g : DoorState) (l : Label) (now : Nat) (s : State) : State :=
  entered g now
    { s with attr := l, player := startedPlayer (chosenMelody s.cfg s.cfg.melodySelect) now s.player }

/-- `s` after `W.POLL` in one step at `now` (40_wiegand_decoder.md R124). -/
def polled (now : Nat) (s : State) : State :=
  if s.w.cnt ≠ 0#8 ∧ now - s.w.last > s.cfg.quietMs then
    if s.cfg.minBits ≤ s.w.cnt.toNat then
      { s with
        w := ⟨0#32, 0#8, s.w.last⟩
        f := ⟨s.w.acc, s.w.cnt, s.w.last, true⟩
        conditions := s.conditions ++ if s.f.avail = true then [.frameOverwrite] else [] }
    else
      { s with w := ⟨0#32, 0#8, s.w.last⟩, conditions := s.conditions ++ [.shortFrame s.w.cnt] }
  else s

/-- What a poll that stops before its second half keeps (44_tick_and_sync.md R228). -/
def snapshot (now : Nat) (s : State) : PollSnap :=
  ⟨s.w.acc, s.w.cnt, s.w.last, decide (s.w.cnt ≠ 0#8 ∧ now - s.w.last > s.cfg.quietMs)⟩

/-- `e` is an edge that the environment lets fall inside an open `W.POLL` (44_tick_and_sync.md R228). -/
def InsidePoll (e : Event) : Prop :=
  e.duringPoll = true ∧ (decodeWord e.word = .ok .edge0 ∨ decodeWord e.word = .ok .edge1)

/-- `s` after an open request with label `l` for the pre-opening state `g` (42_door_state_machine.md R161). -/
def requested (g : DoorState) (l : Label) (now : Nat) (s : State) : State :=
  if s.door = .locked then opened g l now s else withRaised [.ignoredRequest] s

/-- `o` is what `SM.CRED` makes of the state `s` that its poll leaves, with the answer and the time it read at its start
(42_door_state_machine.md R180, 30_encoding.md R103, R105). -/
def IsAnswered (auth : AuthWord) (now : Nat) (s : State) (o : Host.Outcome State Fault Refusal) : Prop :=
  (s.f.avail = false → o = .next s) ∧
  (s.f.avail = true → ∀ u,
    u = { s with f := { s.f with avail := false }, diag := ⟨s.f.code, s.f.bits⟩ } →
    (auth.code = 0#2 → o = .next (withRaised [.noMatch s.f.code s.f.bits] u)) ∧
    (auth.code = 1#2 → o = .next (requested .preOpeningToMail auth.label now u)) ∧
    (auth.code = 2#2 → o = .next (requested .preOpeningToParcel auth.label now u)) ∧
    (auth.code = 3#2 → o = .refused .reservedAuthCode))

/-- `d` is the duty of the envelope at `elapsed` for `target` (41_motor_ramp.md R140). -/
def IsEnvelope (c : Cfg) (elapsed target d : Nat) : Prop :=
  (elapsed < c.fullPowerMs → d = c.breakawayDuty) ∧
  (c.fullPowerMs ≤ elapsed → elapsed < c.fullPowerMs + c.rampMs → target ≤ c.breakawayDuty →
    d = c.breakawayDuty - (c.breakawayDuty - target) * (elapsed - c.fullPowerMs) / c.rampMs) ∧
  (c.fullPowerMs ≤ elapsed → elapsed < c.fullPowerMs + c.rampMs → c.breakawayDuty < target →
    d = c.breakawayDuty + (target - c.breakawayDuty) * (elapsed - c.fullPowerMs) / c.rampMs) ∧
  (c.fullPowerMs + c.rampMs ≤ elapsed → d = target)

/-- `m` is the two-channel command of state `g` at `elapsed` (41_motor_ramp.md R144). -/
def IsCommand (c : Cfg) (g : DoorState) (elapsed : Nat) (m : MotorCommand) : Prop :=
  match g with
  | .openingToParcel => IsEnvelope c elapsed c.dutyOpen m.a.toNat ∧ m.b = 0#8
  | .openingToMail => IsEnvelope c elapsed c.dutyOpen m.a.toNat ∧ m.b = 0#8
  | .locking => m.a = 0#8 ∧ IsEnvelope c elapsed c.dutyClose m.b.toNat
  | .locked => m.a.toNat = c.brake ∧ m.b.toNat = c.brake
  | .preOpeningToParcel => m.a.toNat = c.brake ∧ m.b.toNat = c.brake
  | .preOpeningToMail => m.a.toNat = c.brake ∧ m.b.toNat = c.brake
  | .parcelOpen => m.a.toNat = c.brake ∧ m.b.toNat = c.brake
  | .mailOpen => m.a.toNat = c.brake ∧ m.b.toNat = c.brake
  | .motorError => m.a.toNat = c.brake ∧ m.b.toNat = c.brake

/-- `NOSW_SINCE = some t` and `now - t > INACTIVITY_MS` (42_door_state_machine.md R166). -/
def idleTooLong (now : Nat) (s : State) : Prop := ∃ t, s.noswSince = some t ∧ now - t > s.cfg.inactivityMs

/-- One switch's conditioning registers after a sample (45_switch_debounce.md R240). -/
def sampled (debounceMs : Nat) (raw : Bool) (now : Nat) (d : Debounce) : Debounce :=
  let since := if raw = d.raw then d.since else now
  ⟨if raw ≠ d.out ∧ debounceMs ≤ now - since then raw else d.out, raw, since⟩

/-- Perform `i` in the state an operation left, if it left one. -/
def andThen (o : Host.Outcome State Fault Refusal) (i : Instr) : Host.Outcome State Fault Refusal :=
  match o with
  | .next t => exec i t
  | .fault r => .fault r
  | .refused r => .refused r

/-- The same outcome with the input ports put back to `p`. -/
def withPorts (p : Ports) (o : Host.Outcome State Fault Refusal) : Host.Outcome State Fault Refusal :=
  match o with
  | .next t => .next { t with ports := p }
  | .fault r => .fault r
  | .refused r => .refused r

/-- The edges of a transmission, each a bit and its time, performed in order. -/
def runEdges : List (Bool × Nat) → State → Option State
  | [], s => some s
  | (b, t) :: es, s =>
    match exec (if b then .edge1 else .edge0) (atTime t s) with
    | .next u => runEdges es u
    | .fault _ => none
    | .refused _ => none

/-- The first `min n 32` bits of a frame read as a binary number, first bit most significant
(40_wiegand_decoder.md R127). -/
def frameValue (es : List (Bool × Nat)) : Nat :=
  ∑ i ∈ Finset.range (min es.length 32), ((es.map Prod.fst).getD i false).toNat * 2 ^ (min es.length 32 - 1 - i)

/-- `SM.SWITCH` samples, each three conditioned levels and a time, performed in order. -/
def runSamples : List (Levels × Nat) → State → Option State
  | [], s => some s
  | (l, t) :: xs, s =>
    match exec .smSwitch
        (atTime t
          { s with
            db :=
              ⟨{ s.db.closed with out := l.closed }, { s.db.parcel with out := l.parcel },
                { s.db.mail with out := l.mail }⟩ }) with
    | .next u => runSamples xs u
    | .fault _ => none
    | .refused _ => none

/-- `DB.SAMPLE` with the raw levels `l` at each of the times `ts`, performed in order. -/
def runRawSamples (l : Levels) : List Nat → State → Option State
  | [], s => some s
  | t :: ts, s =>
    match exec .dbSample { s with ports := { s.ports with now := t, sw := l } } with
    | .next u => runRawSamples l ts u
    | .fault _ => none
    | .refused _ => none

/-- The time of the first sample of the unbroken series, at the end of `xs`, in which no switch reads engaged
(10_state.md R29). -/
def quietSince (xs : List (Levels × Nat)) : Option Nat :=
  ((xs.reverse.takeWhile (fun x => !(x.1.closed || x.1.parcel || x.1.mail))).getLast?).map Prod.snd

/-- `S.TICK` performed at each of the times `ts`. -/
def runMelodyTicks : List Nat → State → Option State
  | [], s => some s
  | t :: ts, s =>
    match exec .sTick (atTime t s) with
    | .next u => runMelodyTicks ts u
    | .fault _ => none
    | .refused _ => none

/-- Each of the times `ts` is past the window of the note that plays then (43_melody_sequencer.md R205). -/
def eachPastWindow : List Nat → State → Prop
  | [], _ => True
  | t :: ts, s =>
    5 * (t - s.player.noteAt) > 6 * s.player.dur ∧ ∀ u, exec .sTick (atTime t s) = .next u → eachPastWindow ts u

/-- The next step performs operation `i` of event `e`. -/
def Performs (s : State) (e : Event) (i : Instr) : Prop :=
  ∃ rest, agenda s = .perform e rest ∧ decodeWord e.word = .ok i

/-- The reserved event words, as 93_implementation_defined.md V3 lists them. -/
def IsReservedWord (v : EventWord) : Prop :=
  (0x02 ≤ v.toNat ∧ v.toNat ≤ 0x0F) ∨ (0x13 ≤ v.toNat ∧ v.toNat ≤ 0x1F) ∨ (0x28 ≤ v.toNat ∧ v.toNat ≤ 0x7F) ∨
    v.toNat = 0x86 ∨ v.toNat = 0x87 ∨ (0x8E ≤ v.toNat ∧ v.toNat ≤ 0xEF) ∨ 0xF1 ≤ v.toNat

/-- The operands that operation `i` reads are none of the reserved or refused values (30_encoding.md R105, 00_scope.md
R9). -/
def OperandsDefined (i : Instr) (p : Ports) : Prop :=
  (i = .smEnter ∨ i = .mCmd → p.stateCode.toNat ≤ 8) ∧
  (i = .smCred ∨ (∃ a b c, i = .tick a b c) → p.auth.code ≠ 3#2) ∧
  (i = .reset → p.cfg.wf = true)

/-- The events are operations of their agents, in the order of time from `now` on, with defined operands. -/
def Presentable : Nat → List Event → Prop
  | _, [] => True
  | now, e :: rest =>
    now ≤ e.ports.now ∧
    (∃ i, decodeWord e.word = .ok i ∧ (e.source = .harness ∨ ownerOf i = some e.source) ∧ OperandsDefined i e.ports) ∧
    Presentable e.ports.now rest

/-- `k` steps lead from `s` to `t`. -/
def stepsTo : Nat → State → State → Prop
  | 0, s, t => s = t
  | k + 1, s, t => ∃ u, step s = .next u ∧ stepsTo k u t

/-- Word `v` is the micro-operation `i`, which no agent presents by itself and the loop agent performs inside its `TICK`
(30_encoding.md R90, 60_exceptions.md R275; DEDUCED, notes/assumptions/12.md). -/
def IsStepOfTick (v : EventWord) (i : Instr) : Prop :=
  decodeWord v = .ok i ∧ ownerOf i = none ∧ ∀ c p m, ownerOf (.tick c p m) = some .loop

/-- `s` with `POLL_ATOMIC` set to `b`. -/
def withPollAtomic (b : Bool) (s : State) : State := { s with cfg := { s.cfg with pollAtomic := b } }

end Sys2Proof.Claims

open Sys2Proof Sys2Proof.Machine Sys2Proof.Claims

/-! ### The Wiegand decoder -/

/-- 40_wiegand_decoder.md R120, R121: no condition is raised. The noted `Overlong` is 60_exceptions.md R261 row 7
(notes/assumptions/8.md). -/
def Obligations.EdgeZeroShiftsInZero : Prop :=
  ∀ s : State, ∃ t, exec .edge0 s = .next t ∧
    (s.w.cnt.toNat < 32 → t.w.acc.toNat = 2 * s.w.acc.toNat % 2 ^ 32 ∧ t.noted = s.noted) ∧
    (32 ≤ s.w.cnt.toNat → t.w.acc = s.w.acc ∧ t.noted = s.noted ++ [.overlong t.w.cnt]) ∧
    t.w.cnt.toNat = min (s.w.cnt.toNat + 1) 255 ∧ t.w.last = s.ports.now ∧
    t = { s with w := t.w, noted := t.noted }

/-- 40_wiegand_decoder.md R120, R122: no condition is raised. The noted `Overlong` is 60_exceptions.md R261 row 7
(notes/assumptions/8.md). -/
def Obligations.EdgeOneShiftsInOne : Prop :=
  ∀ s : State, ∃ t, exec .edge1 s = .next t ∧
    (s.w.cnt.toNat < 32 → t.w.acc.toNat = (2 * s.w.acc.toNat + 1) % 2 ^ 32 ∧ t.noted = s.noted) ∧
    (32 ≤ s.w.cnt.toNat → t.w.acc = s.w.acc ∧ t.noted = s.noted ++ [.overlong t.w.cnt]) ∧
    t.w.cnt.toNat = min (s.w.cnt.toNat + 1) 255 ∧ t.w.last = s.ports.now ∧
    t = { s with w := t.w, noted := t.noted }

/-- 40_wiegand_decoder.md R124, with `POLL_ATOMIC = true`. -/
def Obligations.PollFinalizesAfterQuiet : Prop :=
  ∀ s : State, s.cfg.pollAtomic = true → exec .wPoll s = .next (polled s.ports.now s)

/-- 44_tick_and_sync.md R228: with `POLL_ATOMIC = false` a poll first only takes its snapshot. That the open poll also
keeps its caller and the time and answer read at its start is the model's reading (notes/assumptions/13.md). -/
def Obligations.SplitPollTakesSnapshot : Prop :=
  ∀ s : State, s.cfg.pollAtomic = false →
    exec .wPoll s =
      .next { s with window := some ⟨snapshot s.ports.now s, .alone, s.ports.now, s.ports.auth⟩ }

/-- 44_tick_and_sync.md R228: an edge between the two halves of a finalizing poll is counted and then erased; it is in
neither the published frame nor the next one. The poll is one driven alone or the one inside `SM.CRED`, which goes on
with the frame of the snapshot. The operands it goes on with and the conditions raised are the model's reading
(notes/assumptions/13.md). -/
def Obligations.EdgeInsideSplitPollIsLost : Prop :=
  ∀ (s : State) (p : PollWindow) (e : Event) (rest : List Event) (b : Bool),
    s.window = some p → p.snap.go = true → s.inbox = e :: rest → (∀ x ∈ rest.head?, ¬ InsidePoll x) →
    e.duringPoll = true → e.word = (if b then 0x01#8 else 0x00#8) → e.source = .irq → s.ports.now ≤ e.ports.now →
    ∃ t c, step s = .next t ∧ t.w.cnt.toNat = min (s.w.cnt.toNat + 1) 255 ∧
      t = { s with w := t.w, noted := t.noted, inbox := rest, ports := e.ports } ∧
      c = { t with w := ⟨0#32, 0#8, e.ports.now⟩, f := c.f, window := none, conditions := c.conditions } ∧
      (s.cfg.minBits ≤ p.snap.cnt.toNat → c.f = ⟨p.snap.acc, p.snap.cnt, p.snap.last, true⟩ ∧
        c.conditions = s.conditions ++ if s.f.avail = true then [.frameOverwrite] else []) ∧
      (p.snap.cnt.toNat < s.cfg.minBits → c.f = s.f ∧ c.conditions = s.conditions ++ [.shortFrame p.snap.cnt]) ∧
      (p.caller = .alone → step t = .next c) ∧
      (p.caller = .cred → IsAnswered p.auth p.now c (step t) ∧
        (s.cfg.minBits ≤ p.snap.cnt.toNat → p.auth.code ≠ 3#2 →
          ∃ u, step t = .next u ∧ u.w = ⟨0#32, 0#8, e.ports.now⟩ ∧ u.diag = ⟨p.snap.acc, p.snap.cnt⟩ ∧
            u.f = ⟨p.snap.acc, p.snap.cnt, p.snap.last, false⟩ ∧ u.window = none ∧ u.inbox = rest))

/-- 44_tick_and_sync.md R228 against 40_wiegand_decoder.md R124: with no edge in between, the two halves of a poll do
what the one atomic step does, for `W.POLL` alone and inside `SM.CRED`; whatever else is presented waits until the
poll is completed. That the conditions raised are the same, which R228's second half does not write, is the model's
reading (notes/assumptions/13.md). -/
def Obligations.SplitPollWithoutEdgeIsAtomic : Prop :=
  ∀ s : State, s.cfg.pollAtomic = false → s.window = none → (∀ x ∈ s.inbox.head?, ¬ InsidePoll x) →
    (∃ t u, exec .wPoll s = .next t ∧ step t = .next u ∧ u.inbox = s.inbox ∧
      exec .wPoll (withPollAtomic true s) = .next (withPollAtomic true u)) ∧
    (s.door = .locked → s.ports.auth.code ≠ 3#2 →
      ∃ t u, exec .smCred s = .next t ∧ step t = .next u ∧ u.inbox = s.inbox ∧
        exec .smCred (withPollAtomic true s) = .next (withPollAtomic true u))

/-- 40_wiegand_decoder.md R126, with its corner case of two takes in a row. The result stands on the model's own
result port (notes/assumptions/7.md). -/
def Obligations.TakeReturnsFrameOnce : Prop :=
  ∀ s : State,
    (s.f.avail = true →
      exec .wTake s =
        .next { s with
          f := { s.f with avail := false }
          result := .frame (some ⟨s.f.code, s.f.bits, s.f.at_⟩) }) ∧
    (s.f.avail = false → exec .wTake s = .next { s with result := .frame none }) ∧
    ∃ t u, exec .wTake s = .next t ∧ exec .wTake t = .next u ∧ u.result = .frame none ∧ u.w = s.w

/-- 40_wiegand_decoder.md R127: the value of a frame. -/
def Obligations.FrameHoldsFirstBits : Prop :=
  ∀ (s : State) (es : List (Bool × Nat)) (b : Bool) (t now : Nat),
    s.w.cnt = 0#8 → s.w.acc = 0#32 → s.cfg.pollAtomic = true → s.cfg.minBits ≤ 255 → now - t > s.cfg.quietMs →
    ∃ u v, runEdges (es ++ [(b, t)]) s = some u ∧ exec .wPoll (atTime now u) = .next v ∧
      v.w = ⟨0#32, 0#8, t⟩ ∧
      (s.cfg.minBits ≤ es.length + 1 →
        v.f.code.toNat = frameValue (es ++ [(b, t)]) ∧ v.f.bits.toNat = min (es.length + 1) 255 ∧
          v.f.at_ = t ∧ v.f.avail = true) ∧
      (es.length + 1 < s.cfg.minBits → v.f = s.f)

/-- 40_wiegand_decoder.md R125 (a), (h) and 44_tick_and_sync.md R227: a tick that sees no more than `QUIET_MS` of silence
leaves the frame in progress as it is. -/
def Obligations.TickKeepsArrivingFrame : Prop :=
  ∀ (c p m : Bool) (s : State), s.ports.now - s.w.last ≤ s.cfg.quietMs → s.ports.auth.code ≠ 3#2 →
    s.cfg.pollAtomic = true → ∃ t, exec (.tick c p m) s = .next t ∧ t.w = s.w

/-- 44_tick_and_sync.md R226: after every tick that ends in `Locked` the buffer is not pending, and a tick that starts
with an empty buffer leaves it empty. -/
def Obligations.TickLeavesNoPendingFrame : Prop :=
  ∀ (c p m : Bool) (s t : State), s.cfg.pollAtomic = true → exec (.tick c p m) s = .next t →
    (t.door = .locked → t.f.avail = false) ∧ (s.f.avail = false → t.f.avail = false)

/-! ### The motor -/

/-- 41_motor_ramp.md R140; the result stands on the model's own result port (notes/assumptions/7.md). -/
def Obligations.RampFollowsEnvelope : Prop :=
  ∀ s : State, s.cfg.breakawayDuty ≤ 255 →
    ∃ d : Duty, exec .mRamp s = .next { s with result := .duty d } ∧
      IsEnvelope s.cfg s.ports.elapsed s.ports.target.toNat d.toNat

/-- 41_motor_ramp.md R141 (a) to (e): the end points, the bounds and the monotone decay of the envelope. -/
def Obligations.RampDecaysMonotonically : Prop :=
  ∀ (c : Cfg) (target : Nat), target < c.breakawayDuty →
    (∀ e e', c.fullPowerMs ≤ e → e ≤ e' → e' < c.fullPowerMs + c.rampMs →
      ramp c e' target ≤ ramp c e target ∧ target < ramp c e' target ∧ ramp c e target ≤ c.breakawayDuty) ∧
    (0 < c.fullPowerMs + c.rampMs → ramp c 0 target = c.breakawayDuty) ∧
    (c.fullPowerMs + c.rampMs = 0 → ramp c 0 target = target) ∧
    ramp c (c.fullPowerMs + c.rampMs) target = target ∧
    (∀ e, target ≤ ramp c e target ∧ ramp c e target ≤ c.breakawayDuty)

/-- 41_motor_ramp.md R144 for each of the nine states; a state code 9 to 15 is refused (30_encoding.md R105). -/
def Obligations.CommandOfEachState : Prop :=
  (∀ (s : State) (g : DoorState), s.cfg.wf = true → s.ports.stateCode = doorCode g →
    ∃ m, exec .mCmd s = .next { s with result := .command m } ∧ IsCommand s.cfg g s.ports.elapsed m) ∧
  (∀ s : State, 9 ≤ s.ports.stateCode.toNat → exec .mCmd s = .refused (.reservedStateCode s.ports.stateCode))

/-- 41_motor_ramp.md R146: both registers change together, to the command of the current state. -/
def Obligations.MotorWriteFollowsState : Prop :=
  ∀ s : State, s.cfg.wf = true →
    ∃ m, exec .mWrite s = .next { s with pwm := m } ∧ IsCommand s.cfg s.door (s.ports.now - s.motorAt) m

/-- 41_motor_ramp.md R148: the brake, or one channel at 0; and a driving command is never the brake. -/
def Obligations.MotorNeverDrivesBothChannels : Prop :=
  ∀ s : State, s.cfg.wf = true → s.cfg.brake = 255 →
    ∃ t, exec .mWrite s = .next t ∧
      (t.pwm = ⟨255#8, 255#8⟩ ∨ t.pwm.a = 0#8 ∨ t.pwm.b = 0#8) ∧
      (t.pwm = ⟨255#8, 255#8⟩ ↔ s.door ≠ .openingToParcel ∧ s.door ≠ .openingToMail ∧ s.door ≠ .locking)

/-! ### The melody -/

/-- 43_melody_sequencer.md R200 to R202. -/
def Obligations.StartLatchesMelody : Prop :=
  ∀ s : State,
    exec .sStart s =
      .next { s with player := startedPlayer (chosenMelody s.cfg s.ports.sel) s.ports.now s.player }

/-- 43_melody_sequencer.md R204, R205; who performs it is the model's reading of 30_encoding.md R90
(notes/assumptions/12.md). -/
def Obligations.MelodyTickAdvancesOneNote : Prop :=
  IsStepOfTick 0x83#8 .sTick ∧
  ∀ s : State, exec .sTick s = .next { s with player := tickedPlayer s.ports.now s.player }

/-- 43_melody_sequencer.md R205: the window ends at the first tick with `elapsed > floor(6 * M_DUR / 5)`. -/
def Obligations.NoteWindowIsExact : Prop :=
  ∀ s : State, s.player.playing = true → ∃ t, exec .sTick s = .next t ∧
    (t.player.index = s.player.index + 1 ↔ s.ports.now - s.player.noteAt > 6 * s.player.dur / 5) ∧
    (s.ports.now - s.player.noteAt ≤ 6 * s.player.dur / 5 → t = s)

/-- 43_melody_sequencer.md R207: a playback of `L` notes performs exactly `L` advancing `S.TICK`s, the last of which
clears `M_PLAYING`. -/
def Obligations.MelodyPlaysEveryNote : Prop :=
  ∀ (s : State) (ts : List Nat), s.player.playing = true → s.player.index = 0 →
    ts.length ≤ s.player.mel.notes.length → s.player.mel.notes ≠ [] → eachPastWindow ts s →
    ∃ u, runMelodyTicks ts s = some u ∧ u.player.mel = s.player.mel ∧ u.player.index = ts.length ∧
      (u.player.playing = true ↔ ts.length < s.player.mel.notes.length) ∧
      (ts.length = s.player.mel.notes.length → u.player.buz = .silent)

/-! ### The door -/

/-- 42_door_state_machine.md R160; a state code 9 to 15 is refused (30_encoding.md R105). -/
def Obligations.EnterPerformsTransition : Prop :=
  (∀ (s : State) (g : DoorState), s.ports.stateCode = doorCode g → exec .smEnter s = .next (entered g s.ports.now s)) ∧
  (∀ s : State, 9 ≤ s.ports.stateCode.toNat → exec .smEnter s = .refused (.reservedStateCode s.ports.stateCode))

/-- 42_door_state_machine.md R162. -/
def Obligations.OpenParcelOnlyWhenLocked : Prop :=
  decodeWord 0x10#8 = .ok .reqOpenParcel ∧ ownerOf .reqOpenParcel = some .host ∧
  ∀ s : State,
    (s.door = .locked →
      exec .reqOpenParcel s = .next (opened .preOpeningToParcel s.ports.label s.ports.now s)) ∧
    (s.door ≠ .locked → exec .reqOpenParcel s = .next (withRaised [.ignoredRequest] s))

/-- 42_door_state_machine.md R163. -/
def Obligations.OpenMailOnlyWhenLocked : Prop :=
  decodeWord 0x11#8 = .ok .reqOpenMail ∧ ownerOf .reqOpenMail = some .host ∧
  ∀ s : State,
    (s.door = .locked →
      exec .reqOpenMail s = .next (opened .preOpeningToMail s.ports.label s.ports.now s)) ∧
    (s.door ≠ .locked → exec .reqOpenMail s = .next (withRaised [.ignoredRequest] s))

/-- 42_door_state_machine.md R164; that the request is ignored in the other seven states is decision D19, and that any
host agent may present it is the model's reading of 60_exceptions.md R275 (notes/assumptions/12.md). -/
def Obligations.CloseOnlyWhenOpen : Prop :=
  decodeWord 0x12#8 = .ok .reqClose ∧ ownerOf .reqClose = some .host ∧
  ∀ s : State,
    (s.door = .parcelOpen ∨ s.door = .mailOpen → exec .reqClose s = .next (entered .locking s.ports.now s)) ∧
    (s.door ≠ .parcelOpen → s.door ≠ .mailOpen → exec .reqClose s = .next (withRaised [.ignoredRequest] s))

/-- 42_door_state_machine.md R162, A3 of 95_test_vectors.md: a second open request right after an accepted one changes
nothing but the trace of conditions. -/
def Obligations.SecondOpenRequestIgnored : Prop :=
  ∀ (s : State) (i j : Instr) (l : Label) (now : Nat), s.door = .locked →
    i = .reqOpenParcel ∨ i = .reqOpenMail → j = .reqOpenParcel ∨ j = .reqOpenMail →
    ∃ t, exec i s = .next t ∧ t.attr = s.ports.label ∧
      exec j { t with ports := { t.ports with label := l, now := now } } =
        .next (withRaised [.ignoredRequest] { t with ports := { t.ports with label := l, now := now } })

/-- 42_door_state_machine.md R166 to R171: the timed auto-transitions, for each of the nine states; who performs them is
the model's reading of 30_encoding.md R90 (notes/assumptions/12.md). -/
def Obligations.TimedTransitionsOfEachState : Prop :=
  IsStepOfTick 0x81#8 .smTimed ∧
  ∀ s : State,
    (s.door = .preOpeningToParcel →
      (s.ports.now - s.phaseAt > s.cfg.openingDelayMs → exec .smTimed s = .next (entered .openingToParcel s.ports.now s)) ∧
      (s.ports.now - s.phaseAt ≤ s.cfg.openingDelayMs → exec .smTimed s = .next s)) ∧
    (s.door = .preOpeningToMail →
      (s.ports.now - s.phaseAt > s.cfg.openingDelayMs → exec .smTimed s = .next (entered .openingToMail s.ports.now s)) ∧
      (s.ports.now - s.phaseAt ≤ s.cfg.openingDelayMs → exec .smTimed s = .next s)) ∧
    (s.door = .openingToParcel ∨ s.door = .openingToMail ∨ s.door = .locking →
      (s.ports.now - s.motorAt > s.cfg.motorTimeoutMs →
        exec .smTimed s = .next (entered .motorError s.ports.now (withRaised [.motorTimeout s.door] s))) ∧
      (s.ports.now - s.motorAt ≤ s.cfg.motorTimeoutMs → exec .smTimed s = .next s)) ∧
    (s.door = .parcelOpen ∨ s.door = .mailOpen →
      (s.ports.now - s.phaseAt > s.cfg.openDwellMs → exec .smTimed s = .next (entered .locking s.ports.now s)) ∧
      (s.ports.now - s.phaseAt ≤ s.cfg.openDwellMs → idleTooLong s.ports.now s →
        exec .smTimed s = .next (entered .locking s.ports.now (withRaised [.failSafeRelock] s))) ∧
      (s.ports.now - s.phaseAt ≤ s.cfg.openDwellMs → ¬ idleTooLong s.ports.now s → exec .smTimed s = .next s)) ∧
    (s.door = .locked →
      (idleTooLong s.ports.now s →
        exec .smTimed s = .next (entered .locking s.ports.now (withRaised [.failSafeRelock] s))) ∧
      (¬ idleTooLong s.ports.now s → exec .smTimed s = .next s)) ∧
    (s.door = .motorError → exec .smTimed s = .next s)

/-- 42_door_state_machine.md R174 to R179: `NOSW_SINCE` first, then each state looks at its own switch only. -/
def Obligations.SwitchTransitionsOfEachState : Prop :=
  ∀ s : State, ∃ u : State,
    u = { s with
          noswSince :=
            if s.db.closed.out = true ∨ s.db.parcel.out = true ∨ s.db.mail.out = true then none
            else some (s.noswSince.getD s.ports.now) } ∧
    (s.door = .openingToParcel →
      exec .smSwitch s = .next (if s.db.parcel.out = true then entered .parcelOpen s.ports.now u else u)) ∧
    (s.door = .openingToMail →
      exec .smSwitch s = .next (if s.db.mail.out = true then entered .mailOpen s.ports.now u else u)) ∧
    (s.door = .locking →
      exec .smSwitch s = .next (if s.db.closed.out = true then entered .locked s.ports.now u else u)) ∧
    (s.door ≠ .openingToParcel → s.door ≠ .openingToMail → s.door ≠ .locking → exec .smSwitch s = .next u)

/-- 42_door_state_machine.md R178, 10_state.md R29: after any series of samples `NOSW_SINCE` is the time of the first
sample of the unbroken series without an engaged switch, or none. -/
def Obligations.NoSwitchSinceFirstQuietSample : Prop :=
  ∀ (xs : List (Levels × Nat)) (s : State), s.noswSince = none →
    ∃ u, runSamples xs s = some u ∧ u.noswSince = quietSince xs

/-- 42_door_state_machine.md R180: credential polling, only in `Locked`; 44_tick_and_sync.md R228 for
`POLL_ATOMIC = false`, where the open poll that holds the caller's operands is the model's reading
(notes/assumptions/13.md); 30_encoding.md R105 for the refused answer. -/
def Obligations.CredentialHandledOnlyWhenLocked : Prop :=
  ∀ s : State,
    (s.door ≠ .locked → exec .smCred s = .next s) ∧
    (s.door = .locked → s.cfg.pollAtomic = false →
      exec .smCred s = .next { s with window := some ⟨snapshot s.ports.now s, .cred, s.ports.now, s.ports.auth⟩ }) ∧
    (s.door = .locked → s.cfg.pollAtomic = true → ∀ t, t = polled s.ports.now s →
      (t.f.avail = false → exec .smCred s = .next t) ∧
      (t.f.avail = true → ∀ u,
        u = { t with f := { t.f with avail := false }, diag := ⟨t.f.code, t.f.bits⟩ } →
        (s.ports.auth.code = 0#2 → exec .smCred s = .next (withRaised [.noMatch t.f.code t.f.bits] u)) ∧
        (s.ports.auth.code = 1#2 →
          exec .smCred s = .next (opened .preOpeningToMail s.ports.auth.label s.ports.now u)) ∧
        (s.ports.auth.code = 2#2 →
          exec .smCred s = .next (opened .preOpeningToParcel s.ports.auth.label s.ports.now u)) ∧
        (s.ports.auth.code = 3#2 → exec .smCred s = .refused .reservedAuthCode)))

/-- 42_door_state_machine.md R184: what a tick and a request do in `MotorError`; the switches are conditioned as in
45_switch_debounce.md R240. -/
def Obligations.MotorErrorAbsorbsTickAndRequests : Prop :=
  ∀ (c p m : Bool) (s : State), s.door = .motorError → s.cfg.wf = true →
    (∃ t, exec (.tick c p m) s = .next t ∧ t.door = .motorError ∧
      t.pwm.a.toNat = s.cfg.brake ∧ t.pwm.b.toNat = s.cfg.brake ∧
      t.player = tickedPlayer s.ports.now s.player ∧
      t.db =
        ⟨sampled s.cfg.debounceMs c s.ports.now s.db.closed, sampled s.cfg.debounceMs p s.ports.now s.db.parcel,
          sampled s.cfg.debounceMs m s.ports.now s.db.mail⟩ ∧
      t.noswSince =
        (if t.db.closed.out = true ∨ t.db.parcel.out = true ∨ t.db.mail.out = true then none
         else some (s.noswSince.getD s.ports.now)) ∧
      t = { s with db := t.db, pwm := t.pwm, player := t.player, noswSince := t.noswSince }) ∧
    (∀ i, i = .reqOpenParcel ∨ i = .reqOpenMail ∨ i = .reqClose →
      exec i s = .next (withRaised [.ignoredRequest] s))

/-- 42_door_state_machine.md R184, 10_state.md R50 (I8): no step leaves `MotorError` but a `RESET` (and a transition that
the harness itself performs with `SM.ENTER`). -/
def Obligations.MotorErrorOnlyLeftByReset : Prop :=
  ∀ s t : State, s.door = .motorError → step s = .next t →
    (∀ e, ¬ Performs s e .reset ∧ ¬ Performs s e .smEnter) →
    t.door = .motorError ∧ t.attr = s.attr ∧ t.notify = s.notify ∧ t.phaseAt = s.phaseAt ∧ t.motorAt = s.motorAt

/-- 42_door_state_machine.md R185, 10_state.md R50 (I7): every step keeps `NOTIFY` the trace of the realized transitions
(the harness may break it with `SM.ENTER`, which R160 says is never performed with the current state). -/
def Obligations.StepKeepsNotifyTrace : Prop :=
  ∀ s t : State, NotifySound s → step s = .next t → (∀ e, ¬ Performs s e .smEnter) → NotifySound t

/-- 10_state.md R39: no notification is emitted for the initial `Locked`. -/
def Obligations.NotifyTraceAtReset : Prop := NotifySound State.reset ∧ State.reset.notify = []

/-! ### The tick -/

/-- 44_tick_and_sync.md R220: a tick is the six micro-operations in order, all with the same operands. -/
def Obligations.TickIsSixMicroOperations : Prop :=
  ∀ (c p m : Bool) (s : State),
    exec (.tick c p m) s =
      withPorts s.ports
        (andThen (andThen (andThen (andThen (andThen
          (exec .dbSample { s with ports := { s.ports with sw := ⟨c, p, m⟩ } })
          .smTimed) .mWrite) .sTick) .smSwitch) .smCred)

/-- 44_tick_and_sync.md R220, 60_exceptions.md R260: a tick completes, and writes neither the configuration nor the
input side. `AUTH` code 3 is reserved (30_encoding.md R105). -/
def Obligations.TickCompletes : Prop :=
  ∀ (c p m : Bool) (s : State), s.ports.auth.code ≠ 3#2 →
    ∃ t, exec (.tick c p m) s = .next t ∧ t.cfg = s.cfg ∧ t.ports = s.ports ∧ t.inbox = s.inbox ∧
      t.result = s.result ∧ t.draws = s.draws

/-- 44_tick_and_sync.md R222, 42_door_state_machine.md R185: one tick appends at most three notifications and keeps the
earlier ones. -/
def Obligations.TickNotifiesAtMostThreeTimes : Prop :=
  ∀ (c p m : Bool) (s t : State), exec (.tick c p m) s = .next t →
    ∃ l, t.notify = s.notify ++ l ∧ l.length ≤ 3

/-- 44_tick_and_sync.md R221 (a), 42_door_state_machine.md R169: the motor timeout of step 1 wins over the target switch
of step 4, and the same tick brakes. -/
def Obligations.MotorTimeoutBeatsSwitch : Prop :=
  ∀ (c p m : Bool) (s : State),
    s.door = .openingToParcel ∨ s.door = .openingToMail ∨ s.door = .locking →
    s.ports.now - s.motorAt > s.cfg.motorTimeoutMs → s.cfg.wf = true →
    ∃ t, exec (.tick c p m) s = .next t ∧ t.door = .motorError ∧ t.phaseAt = s.ports.now ∧ t.motorAt = s.motorAt ∧
      t.pwm.a.toNat = s.cfg.brake ∧ t.pwm.b.toNat = s.cfg.brake ∧ t.notify = s.notify ++ [(.motorError, s.attr)] ∧
      t.conditions = s.conditions ++ [.motorTimeout s.door] ∧ t.w = s.w ∧ t.f = s.f

/-- 45_switch_debounce.md R240. -/
def Obligations.SampleConditionsEachSwitch : Prop :=
  ∀ s : State,
    exec .dbSample s =
      .next { s with
        db :=
          ⟨sampled s.cfg.debounceMs s.ports.sw.closed s.ports.now s.db.closed,
            sampled s.cfg.debounceMs s.ports.sw.parcel s.ports.now s.db.parcel,
            sampled s.cfg.debounceMs s.ports.sw.mail s.ports.now s.db.mail⟩ }

/-- 45_switch_debounce.md R241 (a): with `DEBOUNCE_MS = 0` the stage is the identity. -/
def Obligations.ZeroDebounceIsIdentity : Prop :=
  ∀ (c p m : Bool) (s t : State), s.cfg.debounceMs = 0 →
    (exec .dbSample s = .next t →
      t.db.closed.out = s.ports.sw.closed ∧ t.db.parcel.out = s.ports.sw.parcel ∧ t.db.mail.out = s.ports.sw.mail) ∧
    (exec (.tick c p m) s = .next t → t.db.closed.out = c ∧ t.db.parcel.out = p ∧ t.db.mail.out = m)

/-- 45_switch_debounce.md R240: a raw level seen unchanged for at least `DEBOUNCE_MS` becomes the conditioned level, and a
pulse seen for less does not. -/
def Obligations.StableLevelPassesShortPulseDoesNot : Prop :=
  ∀ (s : State) (l : Levels) (t : Nat) (ts : List Nat), (t :: ts).IsChain (· ≤ ·) →
    s.db.closed.since ≤ t → s.db.parcel.since ≤ t → s.db.mail.since ≤ t →
    ∃ u, runRawSamples l (t :: ts) s = some u ∧
      (s.cfg.debounceMs ≤ ts.getLastD t - t →
        u.db.closed.out = l.closed ∧ u.db.parcel.out = l.parcel ∧ u.db.mail.out = l.mail) ∧
      (ts.getLastD t - t < s.cfg.debounceMs →
        (s.db.closed.raw = s.db.closed.out → u.db.closed.out = s.db.closed.out) ∧
        (s.db.parcel.raw = s.db.parcel.out → u.db.parcel.out = s.db.parcel.out) ∧
        (s.db.mail.raw = s.db.mail.out → u.db.mail.out = s.db.mail.out))

/-! ### Reset and configuration -/

/-- 70_reset_and_hazards.md R300, R301: the reset values the spec gives. The last three clauses (no poll open, the
presented operations and the ports kept) are the model's choice (notes/assumptions/16.md). -/
def Obligations.ResetLoadsResetValues : Prop :=
  decodeWord 0xF0#8 = .ok .reset ∧
  ∀ s : State, s.ports.cfg.wf = true → ∃ t, exec .reset s = .next t ∧
    t.w.acc = 0#32 ∧ t.w.cnt = 0#8 ∧ t.f.avail = false ∧ t.door = .locked ∧ t.noswSince = none ∧ t.attr = "" ∧
    t.diag = ⟨0#32, 0#8⟩ ∧ t.pwm = ⟨255#8, 255#8⟩ ∧
    t.player.mel = s.ports.cfg.defaultMelody ∧ t.player.index = 0 ∧ t.player.dur = 0 ∧ t.player.playing = false ∧
    t.player.buz = .silent ∧ t.notify = [] ∧
    t.db = ⟨⟨false, false, s.ports.now⟩, ⟨false, false, s.ports.now⟩, ⟨false, false, s.ports.now⟩⟩ ∧
    t.cfg = s.ports.cfg ∧ t.window = none ∧ t.inbox = s.inbox ∧ t.ports = s.ports

/-- 70_reset_and_hazards.md R300: "a `RESET` in any state, at any time, has the same result": of the state before,
nothing but the input side and the count of draws can show after it. -/
def Obligations.ResetForgetsEverything : Prop :=
  ∀ s u : State, s.ports = u.ports → s.inbox = u.inbox → s.draws = u.draws → exec .reset s = exec .reset u

/-- 00_scope.md R9, 93_implementation_defined.md V4: a configuration that breaks a premise is refused. -/
def Obligations.ResetRefusesIllFormedConfig : Prop :=
  ∀ s : State,
    (s.ports.cfg.breakawayDuty > 255 ∨ s.ports.cfg.dutyOpen > 255 ∨ s.ports.cfg.dutyClose > 255 ∨
      s.ports.cfg.breakawayDuty ≤ s.ports.cfg.dutyOpen ∨ s.ports.cfg.breakawayDuty ≤ s.ports.cfg.dutyClose ∨
      s.ports.cfg.defaultMelody.notes = [] ∨ (∃ n ∈ s.ports.cfg.defaultMelody.notes, n.tempoDivisor = 0) ∨
      (∃ e ∈ s.ports.cfg.melodyTable, ∃ n ∈ e.2.notes, n.tempoDivisor = 0) ∨ s.ports.cfg.minBits = 0) →
    exec .reset s = .refused .illFormedConfig

/-- 70_reset_and_hazards.md R300: `State.reset` is what a `RESET` at time 0 leaves (with the model's own configuration,
notes/assumptions/2.md, and the first draw). -/
def Obligations.StateResetIsAReset : Prop :=
  ∀ s : State, s.ports = Ports.powerOn → s.inbox = [] → s.draws = 0 → exec .reset s = .next State.reset

/-- 10_state.md R44: every operation but `RESET` leaves the configuration as it is. -/
def Obligations.ConfigFixedUntilReset : Prop :=
  ∀ s t : State, step s = .next t →
    t.cfg = s.cfg ∨ ∃ e, Performs s e .reset ∧ t.cfg = e.ports.cfg ∧ e.ports.cfg.wf = true

/-! ### Encoding -/

/-- 30_encoding.md R104, R106: decoding and encoding agree in both directions, and a list of words is decoded from its
front. -/
def Obligations.DecodeAndEncodeAgree : Prop :=
  (∀ (i : Instr) (v : EventWord), decodeWord v = .ok i ↔ v = encodeWord i) ∧
  (∀ (i : Instr) (rest : List EventWord), i.wf = true → decode (encode i ++ rest) = .ok (i, rest))

/-- 30_encoding.md R104: words written out from the map. -/
def Obligations.MapWordsDecode : Prop :=
  decodeWord 0b00000001#8 = .ok .edge1 ∧ decodeWord 0b00010001#8 = .ok .reqOpenMail ∧
  decodeWord 0b00100110#8 = .ok (.tick true true false) ∧ decodeWord 0b10000100#8 = .ok .smSwitch ∧
  decodeWord 0b10001011#8 = .ok .mRamp ∧ decodeWord 0b11110000#8 = .ok .reset

/-- 30_encoding.md R105, 93_implementation_defined.md V3: exactly the listed words are reserved, and a reserved word
presented to the CORE is refused. -/
def Obligations.ReservedWordsRefused : Prop :=
  (∀ v : EventWord, IsReservedWord v ↔ ∀ i, decodeWord v ≠ .ok i) ∧
  (∀ (s : State) (e : Event) (rest : List Event), s.window = none → s.inbox = e :: rest → IsReservedWord e.word →
    step s = .refused (.reservedWord e.word))

/-! ### The machine -/

/-- 00_scope.md R14: one step performs the first presented operation, with its own operands on the ports. -/
def Obligations.StepRunsDecodedOperation : Prop :=
  ∀ (s : State) (e : Event) (rest : List Event) (i : Instr),
    s.window = none → s.inbox = e :: rest → decodeWord e.word = .ok i → i.wf = true →
    e.source = .harness ∨ ownerOf i = some e.source → s.ports.now ≤ e.ports.now →
    step s = exec i { s with inbox := rest, ports := e.ports }

/-- 60_exceptions.md R260: "Every operation of the CORE completes; none returns an error; none faults", in every state,
with operands that are not reserved. -/
def Obligations.EveryOperationCompletes : Prop :=
  ∀ (i : Instr) (s : State), OperandsDefined i s.ports → ∃ t, exec i s = .next t

/-- 60_exceptions.md R260 over whole runs: with operations presented in order, by their agents and with defined operands,
the machine never stops, and works all of them off, with every split poll completed. -/
def Obligations.PresentedOperationsNeverStop : Prop :=
  ∀ s : State, Presentable s.ports.now s.inbox →
    (∀ p, s.window = some p → p.caller = .cred → p.auth.code ≠ 3#2) →
    (∀ k, runsFor k s) ∧
    ∃ k t, k ≤ 2 * s.inbox.length + 1 ∧ stepsTo k s t ∧ t.inbox = [] ∧ t.window = none

/-- 00_scope.md R11, 93_implementation_defined.md V8: time running backwards is refused. -/
def Obligations.TimeRunningBackwardsRefused : Prop :=
  ∀ (s : State) (e : Event) (rest : List Event) (i : Instr),
    s.window = none → s.inbox = e :: rest → decodeWord e.word = .ok i → ownerOf i = some e.source →
    e.ports.now < s.ports.now → step s = .refused .timeWentBack

/-- 60_exceptions.md R275, 93_implementation_defined.md V6: an operation from the wrong context is refused: an edge not
from the interrupt, a tick not from the loop, a request not from a host, a reset not from the environment. That a
micro-operation is refused from each of the four, the loop included, is the model's reading of 30_encoding.md R90
(notes/assumptions/12.md). -/
def Obligations.WrongContextRefused : Prop :=
  ∀ (s : State) (e : Event) (rest : List Event) (i : Instr),
    s.window = none → s.inbox = e :: rest → decodeWord e.word = .ok i → e.source ≠ .harness →
    (i = .edge0 ∨ i = .edge1 → e.source ≠ .irq) → (∀ c p m, i = .tick c p m → e.source ≠ .loop) →
    (i = .reqOpenParcel ∨ i = .reqOpenMail ∨ i = .reqClose → e.source ≠ .host) →
    (i = .reset → e.source ≠ .environment) →
    step s = .refused .wrongContext

/-- 20_memory.md R67, R225: the interrupt agent writes only the in-progress group, and the host agents never touch it or
the frame buffer. The trace `noted` and the input side are the model's. -/
def Obligations.AgentsWriteOnlyTheirOwn : Prop :=
  ∀ (s t : State) (e : Event) (rest : List Event), agenda s = .perform e rest → step s = .next t →
    (e.source = .irq →
      t = { s with w := t.w, noted := t.noted, inbox := rest, ports := e.ports }) ∧
    (e.source = .host →
      t.w = s.w ∧ t.f = s.f ∧ t.pwm = s.pwm ∧ t.db = s.db ∧ t.diag = s.diag ∧ t.noswSince = s.noswSince)

/-- 00_scope.md R11: `now` never decreases from one operation to the next. -/
def Obligations.ClockNeverDecreases : Prop :=
  ∀ s t : State, step s = .next t → s.ports.now ≤ t.ports.now

/-- 10_state.md R50: the register invariants hold after every operation. -/
def Obligations.StepKeepsRegisterInvariants : Prop :=
  ∀ s t : State, RegistersSound s → step s = .next t → RegistersSound t

/-- 10_state.md R50: the register invariants hold after reset. -/
def Obligations.RegisterInvariantsAtReset : Prop := RegistersSound State.reset

/-- The model's choice (notes/assumptions/9.md): with no operation presented the CORE holds its state. -/
def Obligations.NothingPresentedNothingChanges : Prop :=
  ∀ s : State, s.window = none → s.inbox = [] → step s = .next s

/-- 42_door_state_machine.md R186, 10_state.md R33: the LED levels under the default `LED_MAP`. -/
def Obligations.DefaultLedsOfEachState : Prop :=
  ∀ s : State, s.cfg.ledMap = Config.defaultLedMap →
    (s.door = .locked → leds s = ⟨false, false⟩) ∧
    (s.door = .preOpeningToParcel ∨ s.door = .preOpeningToMail ∨ s.door = .parcelOpen ∨ s.door = .mailOpen →
      leds s = ⟨true, false⟩) ∧
    (s.door = .openingToParcel ∨ s.door = .openingToMail ∨ s.door = .locking ∨ s.door = .motorError →
      leds s = ⟨false, true⟩)

/-- 00_scope.md R8, 10_state.md R31, R44: a `RESET` can latch any `FMT`, and from then on the diagnostic string is that
`FMT` of `(DIAG_CODE, DIAG_BITS)`. That `FMT` is held as a table is the model's choice (notes/assumptions/18.md). -/
def Obligations.EveryFormatterCanBeLatched : Prop :=
  ∀ (g : Code → Count → String) (s : State), s.ports.cfg.wf = true →
    ∃ f t, exec .reset { s with ports := { s.ports with cfg := { s.ports.cfg with fmt := f } } } = .next t ∧
      t.cfg = { s.ports.cfg with fmt := f } ∧
      ∀ u : State, u.cfg = t.cfg → diagString u = g u.diag.code u.diag.bits
end

