-- ==== Sys2Proof/Laws/Config.lean ====
section
/-! SUPPORT. What well-formedness of a configuration and of a melody says. -/

namespace Sys2Proof

theorem Melody.wf_iff (m : Melody) : m.wf = true ↔ ∀ n ∈ m.notes, 1 ≤ n.tempoDivisor := by
  simp [Melody.wf]

theorem Cfg.dutiesInRange_iff (c : Cfg) :
    c.dutiesInRange = true ↔ c.breakawayDuty ≤ 255 ∧ c.dutyOpen ≤ 255 ∧ c.dutyClose ≤ 255 ∧ c.brake ≤ 255 := by
  have h : Config.dutyMax = 255 := rfl
  simp only [Cfg.dutiesInRange, Bool.and_eq_true, decide_eq_true_eq, h, and_assoc]

theorem Cfg.breakawayHighest_iff (c : Cfg) :
    c.breakawayHighest = true ↔ c.dutyOpen < c.breakawayDuty ∧ c.dutyClose < c.breakawayDuty := by
  simp [Cfg.breakawayHighest]

theorem Cfg.defaultSounds_iff (c : Cfg) : c.defaultSounds = true ↔ c.defaultMelody.notes ≠ [] := by
  simp [Cfg.defaultSounds]

theorem Cfg.divisorsPositive_iff (c : Cfg) :
    c.divisorsPositive = true ↔ c.defaultMelody.wf = true ∧ ∀ e ∈ c.melodyTable, e.2.wf = true := by
  simp [Cfg.divisorsPositive]

theorem Cfg.minBitsPositive_iff (c : Cfg) : c.minBitsPositive = true ↔ 1 ≤ c.minBits := by
  simp [Cfg.minBitsPositive]

theorem Cfg.wf_iff (c : Cfg) :
    c.wf = true ↔ c.dutiesInRange = true ∧ c.breakawayHighest = true ∧ c.defaultSounds = true ∧
      c.divisorsPositive = true ∧ c.minBitsPositive = true := by
  simp [Cfg.wf, and_assoc]

end Sys2Proof
end

