-- ==== Sys2Proof/Laws/State.lean ====
section
/-! SUPPORT. What each named update leaves in each field of State: one lemma per field per update, true by rfl. -/

namespace Sys2Proof.Machine

@[simp] theorem raise_w (c : Condition) (s : State) : (raise c s).w = s.w := rfl
@[simp] theorem raise_f (c : Condition) (s : State) : (raise c s).f = s.f := rfl
@[simp] theorem raise_door (c : Condition) (s : State) : (raise c s).door = s.door := rfl
@[simp] theorem raise_phaseAt (c : Condition) (s : State) : (raise c s).phaseAt = s.phaseAt := rfl
@[simp] theorem raise_motorAt (c : Condition) (s : State) : (raise c s).motorAt = s.motorAt := rfl
@[simp] theorem raise_noswSince (c : Condition) (s : State) : (raise c s).noswSince = s.noswSince := rfl
@[simp] theorem raise_attr (c : Condition) (s : State) : (raise c s).attr = s.attr := rfl
@[simp] theorem raise_diag (c : Condition) (s : State) : (raise c s).diag = s.diag := rfl
@[simp] theorem raise_pwm (c : Condition) (s : State) : (raise c s).pwm = s.pwm := rfl
@[simp] theorem raise_player (c : Condition) (s : State) : (raise c s).player = s.player := rfl
@[simp] theorem raise_notify (c : Condition) (s : State) : (raise c s).notify = s.notify := rfl
@[simp] theorem raise_db (c : Condition) (s : State) : (raise c s).db = s.db := rfl
@[simp] theorem raise_cfg (c : Condition) (s : State) : (raise c s).cfg = s.cfg := rfl
@[simp] theorem raise_ports (c : Condition) (s : State) : (raise c s).ports = s.ports := rfl
@[simp] theorem raise_inbox (c : Condition) (s : State) : (raise c s).inbox = s.inbox := rfl
@[simp] theorem raise_window (c : Condition) (s : State) : (raise c s).window = s.window := rfl
@[simp] theorem raise_conditions (c : Condition) (s : State) : (raise c s).conditions = s.conditions ++ [c] := rfl
@[simp] theorem raise_noted (c : Condition) (s : State) : (raise c s).noted = s.noted := rfl
@[simp] theorem raise_result (c : Condition) (s : State) : (raise c s).result = s.result := rfl
@[simp] theorem raise_draws (c : Condition) (s : State) : (raise c s).draws = s.draws := rfl

@[simp] theorem note_w (c : Condition) (s : State) : (note c s).w = s.w := rfl
@[simp] theorem note_f (c : Condition) (s : State) : (note c s).f = s.f := rfl
@[simp] theorem note_door (c : Condition) (s : State) : (note c s).door = s.door := rfl
@[simp] theorem note_phaseAt (c : Condition) (s : State) : (note c s).phaseAt = s.phaseAt := rfl
@[simp] theorem note_motorAt (c : Condition) (s : State) : (note c s).motorAt = s.motorAt := rfl
@[simp] theorem note_noswSince (c : Condition) (s : State) : (note c s).noswSince = s.noswSince := rfl
@[simp] theorem note_attr (c : Condition) (s : State) : (note c s).attr = s.attr := rfl
@[simp] theorem note_diag (c : Condition) (s : State) : (note c s).diag = s.diag := rfl
@[simp] theorem note_pwm (c : Condition) (s : State) : (note c s).pwm = s.pwm := rfl
@[simp] theorem note_player (c : Condition) (s : State) : (note c s).player = s.player := rfl
@[simp] theorem note_notify (c : Condition) (s : State) : (note c s).notify = s.notify := rfl
@[simp] theorem note_db (c : Condition) (s : State) : (note c s).db = s.db := rfl
@[simp] theorem note_cfg (c : Condition) (s : State) : (note c s).cfg = s.cfg := rfl
@[simp] theorem note_ports (c : Condition) (s : State) : (note c s).ports = s.ports := rfl
@[simp] theorem note_inbox (c : Condition) (s : State) : (note c s).inbox = s.inbox := rfl
@[simp] theorem note_window (c : Condition) (s : State) : (note c s).window = s.window := rfl
@[simp] theorem note_conditions (c : Condition) (s : State) : (note c s).conditions = s.conditions := rfl
@[simp] theorem note_noted (c : Condition) (s : State) : (note c s).noted = s.noted ++ [c] := rfl
@[simp] theorem note_result (c : Condition) (s : State) : (note c s).result = s.result := rfl
@[simp] theorem note_draws (c : Condition) (s : State) : (note c s).draws = s.draws := rfl

@[simp] theorem enter_w (g : DoorState) (now : Nat) (s : State) : (enter g now s).w = s.w := rfl
@[simp] theorem enter_f (g : DoorState) (now : Nat) (s : State) : (enter g now s).f = s.f := rfl
@[simp] theorem enter_door (g : DoorState) (now : Nat) (s : State) : (enter g now s).door = g := rfl
@[simp] theorem enter_phaseAt (g : DoorState) (now : Nat) (s : State) : (enter g now s).phaseAt = now := rfl
@[simp] theorem enter_motorAt (g : DoorState) (now : Nat) (s : State) : (enter g now s).motorAt = if isMotorDriving g then now else s.motorAt := rfl
@[simp] theorem enter_noswSince (g : DoorState) (now : Nat) (s : State) : (enter g now s).noswSince = s.noswSince := rfl
@[simp] theorem enter_attr (g : DoorState) (now : Nat) (s : State) : (enter g now s).attr = s.attr := rfl
@[simp] theorem enter_diag (g : DoorState) (now : Nat) (s : State) : (enter g now s).diag = s.diag := rfl
@[simp] theorem enter_pwm (g : DoorState) (now : Nat) (s : State) : (enter g now s).pwm = s.pwm := rfl
@[simp] theorem enter_player (g : DoorState) (now : Nat) (s : State) : (enter g now s).player = s.player := rfl
@[simp] theorem enter_notify (g : DoorState) (now : Nat) (s : State) : (enter g now s).notify = s.notify ++ [(g, s.attr)] := rfl
@[simp] theorem enter_db (g : DoorState) (now : Nat) (s : State) : (enter g now s).db = s.db := rfl
@[simp] theorem enter_cfg (g : DoorState) (now : Nat) (s : State) : (enter g now s).cfg = s.cfg := rfl
@[simp] theorem enter_ports (g : DoorState) (now : Nat) (s : State) : (enter g now s).ports = s.ports := rfl
@[simp] theorem enter_inbox (g : DoorState) (now : Nat) (s : State) : (enter g now s).inbox = s.inbox := rfl
@[simp] theorem enter_window (g : DoorState) (now : Nat) (s : State) : (enter g now s).window = s.window := rfl
@[simp] theorem enter_conditions (g : DoorState) (now : Nat) (s : State) : (enter g now s).conditions = s.conditions := rfl
@[simp] theorem enter_noted (g : DoorState) (now : Nat) (s : State) : (enter g now s).noted = s.noted := rfl
@[simp] theorem enter_result (g : DoorState) (now : Nat) (s : State) : (enter g now s).result = s.result := rfl
@[simp] theorem enter_draws (g : DoorState) (now : Nat) (s : State) : (enter g now s).draws = s.draws := rfl

@[simp] theorem writeMotor_w (now : Nat) (s : State) : (writeMotor now s).w = s.w := rfl
@[simp] theorem writeMotor_f (now : Nat) (s : State) : (writeMotor now s).f = s.f := rfl
@[simp] theorem writeMotor_door (now : Nat) (s : State) : (writeMotor now s).door = s.door := rfl
@[simp] theorem writeMotor_phaseAt (now : Nat) (s : State) : (writeMotor now s).phaseAt = s.phaseAt := rfl
@[simp] theorem writeMotor_motorAt (now : Nat) (s : State) : (writeMotor now s).motorAt = s.motorAt := rfl
@[simp] theorem writeMotor_noswSince (now : Nat) (s : State) : (writeMotor now s).noswSince = s.noswSince := rfl
@[simp] theorem writeMotor_attr (now : Nat) (s : State) : (writeMotor now s).attr = s.attr := rfl
@[simp] theorem writeMotor_diag (now : Nat) (s : State) : (writeMotor now s).diag = s.diag := rfl
@[simp] theorem writeMotor_pwm (now : Nat) (s : State) : (writeMotor now s).pwm = command s.cfg s.door (now - s.motorAt) := rfl
@[simp] theorem writeMotor_player (now : Nat) (s : State) : (writeMotor now s).player = s.player := rfl
@[simp] theorem writeMotor_notify (now : Nat) (s : State) : (writeMotor now s).notify = s.notify := rfl
@[simp] theorem writeMotor_db (now : Nat) (s : State) : (writeMotor now s).db = s.db := rfl
@[simp] theorem writeMotor_cfg (now : Nat) (s : State) : (writeMotor now s).cfg = s.cfg := rfl
@[simp] theorem writeMotor_ports (now : Nat) (s : State) : (writeMotor now s).ports = s.ports := rfl
@[simp] theorem writeMotor_inbox (now : Nat) (s : State) : (writeMotor now s).inbox = s.inbox := rfl
@[simp] theorem writeMotor_window (now : Nat) (s : State) : (writeMotor now s).window = s.window := rfl
@[simp] theorem writeMotor_conditions (now : Nat) (s : State) : (writeMotor now s).conditions = s.conditions := rfl
@[simp] theorem writeMotor_noted (now : Nat) (s : State) : (writeMotor now s).noted = s.noted := rfl
@[simp] theorem writeMotor_result (now : Nat) (s : State) : (writeMotor now s).result = s.result := rfl
@[simp] theorem writeMotor_draws (now : Nat) (s : State) : (writeMotor now s).draws = s.draws := rfl

@[simp] theorem startMelody_w (sel : Selection) (now : Nat) (s : State) : (startMelody sel now s).w = s.w := rfl
@[simp] theorem startMelody_f (sel : Selection) (now : Nat) (s : State) : (startMelody sel now s).f = s.f := rfl
@[simp] theorem startMelody_door (sel : Selection) (now : Nat) (s : State) : (startMelody sel now s).door = s.door := rfl
@[simp] theorem startMelody_phaseAt (sel : Selection) (now : Nat) (s : State) : (startMelody sel now s).phaseAt = s.phaseAt := rfl
@[simp] theorem startMelody_motorAt (sel : Selection) (now : Nat) (s : State) : (startMelody sel now s).motorAt = s.motorAt := rfl
@[simp] theorem startMelody_noswSince (sel : Selection) (now : Nat) (s : State) : (startMelody sel now s).noswSince = s.noswSince := rfl
@[simp] theorem startMelody_attr (sel : Selection) (now : Nat) (s : State) : (startMelody sel now s).attr = s.attr := rfl
@[simp] theorem startMelody_diag (sel : Selection) (now : Nat) (s : State) : (startMelody sel now s).diag = s.diag := rfl
@[simp] theorem startMelody_pwm (sel : Selection) (now : Nat) (s : State) : (startMelody sel now s).pwm = s.pwm := rfl
@[simp] theorem startMelody_player (sel : Selection) (now : Nat) (s : State) : (startMelody sel now s).player = startPlayer (lookupMelody s.cfg sel) now s.player := rfl
@[simp] theorem startMelody_notify (sel : Selection) (now : Nat) (s : State) : (startMelody sel now s).notify = s.notify := rfl
@[simp] theorem startMelody_db (sel : Selection) (now : Nat) (s : State) : (startMelody sel now s).db = s.db := rfl
@[simp] theorem startMelody_cfg (sel : Selection) (now : Nat) (s : State) : (startMelody sel now s).cfg = s.cfg := rfl
@[simp] theorem startMelody_ports (sel : Selection) (now : Nat) (s : State) : (startMelody sel now s).ports = s.ports := rfl
@[simp] theorem startMelody_inbox (sel : Selection) (now : Nat) (s : State) : (startMelody sel now s).inbox = s.inbox := rfl
@[simp] theorem startMelody_window (sel : Selection) (now : Nat) (s : State) : (startMelody sel now s).window = s.window := rfl
@[simp] theorem startMelody_conditions (sel : Selection) (now : Nat) (s : State) : (startMelody sel now s).conditions = s.conditions := rfl
@[simp] theorem startMelody_noted (sel : Selection) (now : Nat) (s : State) : (startMelody sel now s).noted = s.noted := rfl
@[simp] theorem startMelody_result (sel : Selection) (now : Nat) (s : State) : (startMelody sel now s).result = s.result := rfl
@[simp] theorem startMelody_draws (sel : Selection) (now : Nat) (s : State) : (startMelody sel now s).draws = s.draws := rfl

@[simp] theorem tickMelody_w (now : Nat) (s : State) : (tickMelody now s).w = s.w := rfl
@[simp] theorem tickMelody_f (now : Nat) (s : State) : (tickMelody now s).f = s.f := rfl
@[simp] theorem tickMelody_door (now : Nat) (s : State) : (tickMelody now s).door = s.door := rfl
@[simp] theorem tickMelody_phaseAt (now : Nat) (s : State) : (tickMelody now s).phaseAt = s.phaseAt := rfl
@[simp] theorem tickMelody_motorAt (now : Nat) (s : State) : (tickMelody now s).motorAt = s.motorAt := rfl
@[simp] theorem tickMelody_noswSince (now : Nat) (s : State) : (tickMelody now s).noswSince = s.noswSince := rfl
@[simp] theorem tickMelody_attr (now : Nat) (s : State) : (tickMelody now s).attr = s.attr := rfl
@[simp] theorem tickMelody_diag (now : Nat) (s : State) : (tickMelody now s).diag = s.diag := rfl
@[simp] theorem tickMelody_pwm (now : Nat) (s : State) : (tickMelody now s).pwm = s.pwm := rfl
@[simp] theorem tickMelody_player (now : Nat) (s : State) : (tickMelody now s).player = tickPlayer now s.player := rfl
@[simp] theorem tickMelody_notify (now : Nat) (s : State) : (tickMelody now s).notify = s.notify := rfl
@[simp] theorem tickMelody_db (now : Nat) (s : State) : (tickMelody now s).db = s.db := rfl
@[simp] theorem tickMelody_cfg (now : Nat) (s : State) : (tickMelody now s).cfg = s.cfg := rfl
@[simp] theorem tickMelody_ports (now : Nat) (s : State) : (tickMelody now s).ports = s.ports := rfl
@[simp] theorem tickMelody_inbox (now : Nat) (s : State) : (tickMelody now s).inbox = s.inbox := rfl
@[simp] theorem tickMelody_window (now : Nat) (s : State) : (tickMelody now s).window = s.window := rfl
@[simp] theorem tickMelody_conditions (now : Nat) (s : State) : (tickMelody now s).conditions = s.conditions := rfl
@[simp] theorem tickMelody_noted (now : Nat) (s : State) : (tickMelody now s).noted = s.noted := rfl
@[simp] theorem tickMelody_result (now : Nat) (s : State) : (tickMelody now s).result = s.result := rfl
@[simp] theorem tickMelody_draws (now : Nat) (s : State) : (tickMelody now s).draws = s.draws := rfl

@[simp] theorem sampleSwitches_w (l : Levels) (now : Nat) (s : State) : (sampleSwitches l now s).w = s.w := rfl
@[simp] theorem sampleSwitches_f (l : Levels) (now : Nat) (s : State) : (sampleSwitches l now s).f = s.f := rfl
@[simp] theorem sampleSwitches_door (l : Levels) (now : Nat) (s : State) : (sampleSwitches l now s).door = s.door := rfl
@[simp] theorem sampleSwitches_phaseAt (l : Levels) (now : Nat) (s : State) : (sampleSwitches l now s).phaseAt = s.phaseAt := rfl
@[simp] theorem sampleSwitches_motorAt (l : Levels) (now : Nat) (s : State) : (sampleSwitches l now s).motorAt = s.motorAt := rfl
@[simp] theorem sampleSwitches_noswSince (l : Levels) (now : Nat) (s : State) : (sampleSwitches l now s).noswSince = s.noswSince := rfl
@[simp] theorem sampleSwitches_attr (l : Levels) (now : Nat) (s : State) : (sampleSwitches l now s).attr = s.attr := rfl
@[simp] theorem sampleSwitches_diag (l : Levels) (now : Nat) (s : State) : (sampleSwitches l now s).diag = s.diag := rfl
@[simp] theorem sampleSwitches_pwm (l : Levels) (now : Nat) (s : State) : (sampleSwitches l now s).pwm = s.pwm := rfl
@[simp] theorem sampleSwitches_player (l : Levels) (now : Nat) (s : State) : (sampleSwitches l now s).player = s.player := rfl
@[simp] theorem sampleSwitches_notify (l : Levels) (now : Nat) (s : State) : (sampleSwitches l now s).notify = s.notify := rfl
@[simp] theorem sampleSwitches_db (l : Levels) (now : Nat) (s : State) : (sampleSwitches l now s).db = ⟨sampleSwitch s.cfg.debounceMs l.closed now s.db.closed, sampleSwitch s.cfg.debounceMs l.parcel now s.db.parcel, sampleSwitch s.cfg.debounceMs l.mail now s.db.mail⟩ := rfl
@[simp] theorem sampleSwitches_cfg (l : Levels) (now : Nat) (s : State) : (sampleSwitches l now s).cfg = s.cfg := rfl
@[simp] theorem sampleSwitches_ports (l : Levels) (now : Nat) (s : State) : (sampleSwitches l now s).ports = s.ports := rfl
@[simp] theorem sampleSwitches_inbox (l : Levels) (now : Nat) (s : State) : (sampleSwitches l now s).inbox = s.inbox := rfl
@[simp] theorem sampleSwitches_window (l : Levels) (now : Nat) (s : State) : (sampleSwitches l now s).window = s.window := rfl
@[simp] theorem sampleSwitches_conditions (l : Levels) (now : Nat) (s : State) : (sampleSwitches l now s).conditions = s.conditions := rfl
@[simp] theorem sampleSwitches_noted (l : Levels) (now : Nat) (s : State) : (sampleSwitches l now s).noted = s.noted := rfl
@[simp] theorem sampleSwitches_result (l : Levels) (now : Nat) (s : State) : (sampleSwitches l now s).result = s.result := rfl
@[simp] theorem sampleSwitches_draws (l : Levels) (now : Nat) (s : State) : (sampleSwitches l now s).draws = s.draws := rfl

@[simp] theorem recordNosw_w (now : Nat) (s : State) : (recordNosw now s).w = s.w := rfl
@[simp] theorem recordNosw_f (now : Nat) (s : State) : (recordNosw now s).f = s.f := rfl
@[simp] theorem recordNosw_door (now : Nat) (s : State) : (recordNosw now s).door = s.door := rfl
@[simp] theorem recordNosw_phaseAt (now : Nat) (s : State) : (recordNosw now s).phaseAt = s.phaseAt := rfl
@[simp] theorem recordNosw_motorAt (now : Nat) (s : State) : (recordNosw now s).motorAt = s.motorAt := rfl
@[simp] theorem recordNosw_noswSince (now : Nat) (s : State) : (recordNosw now s).noswSince = nextNosw (anyEngaged s.db) now s.noswSince := rfl
@[simp] theorem recordNosw_attr (now : Nat) (s : State) : (recordNosw now s).attr = s.attr := rfl
@[simp] theorem recordNosw_diag (now : Nat) (s : State) : (recordNosw now s).diag = s.diag := rfl
@[simp] theorem recordNosw_pwm (now : Nat) (s : State) : (recordNosw now s).pwm = s.pwm := rfl
@[simp] theorem recordNosw_player (now : Nat) (s : State) : (recordNosw now s).player = s.player := rfl
@[simp] theorem recordNosw_notify (now : Nat) (s : State) : (recordNosw now s).notify = s.notify := rfl
@[simp] theorem recordNosw_db (now : Nat) (s : State) : (recordNosw now s).db = s.db := rfl
@[simp] theorem recordNosw_cfg (now : Nat) (s : State) : (recordNosw now s).cfg = s.cfg := rfl
@[simp] theorem recordNosw_ports (now : Nat) (s : State) : (recordNosw now s).ports = s.ports := rfl
@[simp] theorem recordNosw_inbox (now : Nat) (s : State) : (recordNosw now s).inbox = s.inbox := rfl
@[simp] theorem recordNosw_window (now : Nat) (s : State) : (recordNosw now s).window = s.window := rfl
@[simp] theorem recordNosw_conditions (now : Nat) (s : State) : (recordNosw now s).conditions = s.conditions := rfl
@[simp] theorem recordNosw_noted (now : Nat) (s : State) : (recordNosw now s).noted = s.noted := rfl
@[simp] theorem recordNosw_result (now : Nat) (s : State) : (recordNosw now s).result = s.result := rfl
@[simp] theorem recordNosw_draws (now : Nat) (s : State) : (recordNosw now s).draws = s.draws := rfl

@[simp] theorem openPoll_w (k : PollCaller) (now : Nat) (a : AuthWord) (s : State) : (openPoll k now a s).w = s.w := rfl
@[simp] theorem openPoll_f (k : PollCaller) (now : Nat) (a : AuthWord) (s : State) : (openPoll k now a s).f = s.f := rfl
@[simp] theorem openPoll_door (k : PollCaller) (now : Nat) (a : AuthWord) (s : State) : (openPoll k now a s).door = s.door := rfl
@[simp] theorem openPoll_phaseAt (k : PollCaller) (now : Nat) (a : AuthWord) (s : State) : (openPoll k now a s).phaseAt = s.phaseAt := rfl
@[simp] theorem openPoll_motorAt (k : PollCaller) (now : Nat) (a : AuthWord) (s : State) : (openPoll k now a s).motorAt = s.motorAt := rfl
@[simp] theorem openPoll_noswSince (k : PollCaller) (now : Nat) (a : AuthWord) (s : State) : (openPoll k now a s).noswSince = s.noswSince := rfl
@[simp] theorem openPoll_attr (k : PollCaller) (now : Nat) (a : AuthWord) (s : State) : (openPoll k now a s).attr = s.attr := rfl
@[simp] theorem openPoll_diag (k : PollCaller) (now : Nat) (a : AuthWord) (s : State) : (openPoll k now a s).diag = s.diag := rfl
@[simp] theorem openPoll_pwm (k : PollCaller) (now : Nat) (a : AuthWord) (s : State) : (openPoll k now a s).pwm = s.pwm := rfl
@[simp] theorem openPoll_player (k : PollCaller) (now : Nat) (a : AuthWord) (s : State) : (openPoll k now a s).player = s.player := rfl
@[simp] theorem openPoll_notify (k : PollCaller) (now : Nat) (a : AuthWord) (s : State) : (openPoll k now a s).notify = s.notify := rfl
@[simp] theorem openPoll_db (k : PollCaller) (now : Nat) (a : AuthWord) (s : State) : (openPoll k now a s).db = s.db := rfl
@[simp] theorem openPoll_cfg (k : PollCaller) (now : Nat) (a : AuthWord) (s : State) : (openPoll k now a s).cfg = s.cfg := rfl
@[simp] theorem openPoll_ports (k : PollCaller) (now : Nat) (a : AuthWord) (s : State) : (openPoll k now a s).ports = s.ports := rfl
@[simp] theorem openPoll_inbox (k : PollCaller) (now : Nat) (a : AuthWord) (s : State) : (openPoll k now a s).inbox = s.inbox := rfl
@[simp] theorem openPoll_window (k : PollCaller) (now : Nat) (a : AuthWord) (s : State) : (openPoll k now a s).window = some ⟨pollSnap now s, k, now, a⟩ := rfl
@[simp] theorem openPoll_conditions (k : PollCaller) (now : Nat) (a : AuthWord) (s : State) : (openPoll k now a s).conditions = s.conditions := rfl
@[simp] theorem openPoll_noted (k : PollCaller) (now : Nat) (a : AuthWord) (s : State) : (openPoll k now a s).noted = s.noted := rfl
@[simp] theorem openPoll_result (k : PollCaller) (now : Nat) (a : AuthWord) (s : State) : (openPoll k now a s).result = s.result := rfl
@[simp] theorem openPoll_draws (k : PollCaller) (now : Nat) (a : AuthWord) (s : State) : (openPoll k now a s).draws = s.draws := rfl

@[simp] theorem present_w (e : Event) (rest : List Event) (s : State) : (present e rest s).w = s.w := rfl
@[simp] theorem present_f (e : Event) (rest : List Event) (s : State) : (present e rest s).f = s.f := rfl
@[simp] theorem present_door (e : Event) (rest : List Event) (s : State) : (present e rest s).door = s.door := rfl
@[simp] theorem present_phaseAt (e : Event) (rest : List Event) (s : State) : (present e rest s).phaseAt = s.phaseAt := rfl
@[simp] theorem present_motorAt (e : Event) (rest : List Event) (s : State) : (present e rest s).motorAt = s.motorAt := rfl
@[simp] theorem present_noswSince (e : Event) (rest : List Event) (s : State) : (present e rest s).noswSince = s.noswSince := rfl
@[simp] theorem present_attr (e : Event) (rest : List Event) (s : State) : (present e rest s).attr = s.attr := rfl
@[simp] theorem present_diag (e : Event) (rest : List Event) (s : State) : (present e rest s).diag = s.diag := rfl
@[simp] theorem present_pwm (e : Event) (rest : List Event) (s : State) : (present e rest s).pwm = s.pwm := rfl
@[simp] theorem present_player (e : Event) (rest : List Event) (s : State) : (present e rest s).player = s.player := rfl
@[simp] theorem present_notify (e : Event) (rest : List Event) (s : State) : (present e rest s).notify = s.notify := rfl
@[simp] theorem present_db (e : Event) (rest : List Event) (s : State) : (present e rest s).db = s.db := rfl
@[simp] theorem present_cfg (e : Event) (rest : List Event) (s : State) : (present e rest s).cfg = s.cfg := rfl
@[simp] theorem present_ports (e : Event) (rest : List Event) (s : State) : (present e rest s).ports = e.ports := rfl
@[simp] theorem present_inbox (e : Event) (rest : List Event) (s : State) : (present e rest s).inbox = rest := rfl
@[simp] theorem present_window (e : Event) (rest : List Event) (s : State) : (present e rest s).window = s.window := rfl
@[simp] theorem present_conditions (e : Event) (rest : List Event) (s : State) : (present e rest s).conditions = s.conditions := rfl
@[simp] theorem present_noted (e : Event) (rest : List Event) (s : State) : (present e rest s).noted = s.noted := rfl
@[simp] theorem present_result (e : Event) (rest : List Event) (s : State) : (present e rest s).result = s.result := rfl
@[simp] theorem present_draws (e : Event) (rest : List Event) (s : State) : (present e rest s).draws = s.draws := rfl

@[simp] theorem resetRegisters_w (c : Cfg) (now : Nat) (s : State) : (resetRegisters c now s).w = ⟨0#32, 0#8, Config.wLastAtReset s.draws⟩ := rfl
@[simp] theorem resetRegisters_f (c : Cfg) (now : Nat) (s : State) : (resetRegisters c now s).f = ⟨Config.fCodeAtReset s.draws, Config.fBitsAtReset s.draws, Config.fAtAtReset s.draws, false⟩ := rfl
@[simp] theorem resetRegisters_door (c : Cfg) (now : Nat) (s : State) : (resetRegisters c now s).door = .locked := rfl
@[simp] theorem resetRegisters_phaseAt (c : Cfg) (now : Nat) (s : State) : (resetRegisters c now s).phaseAt = Config.phaseAtAtReset s.draws := rfl
@[simp] theorem resetRegisters_motorAt (c : Cfg) (now : Nat) (s : State) : (resetRegisters c now s).motorAt = Config.motorAtAtReset s.draws := rfl
@[simp] theorem resetRegisters_noswSince (c : Cfg) (now : Nat) (s : State) : (resetRegisters c now s).noswSince = none := rfl
@[simp] theorem resetRegisters_attr (c : Cfg) (now : Nat) (s : State) : (resetRegisters c now s).attr = "" := rfl
@[simp] theorem resetRegisters_diag (c : Cfg) (now : Nat) (s : State) : (resetRegisters c now s).diag = ⟨0#32, 0#8⟩ := rfl
@[simp] theorem resetRegisters_pwm (c : Cfg) (now : Nat) (s : State) : (resetRegisters c now s).pwm = ⟨255#8, 255#8⟩ := rfl
@[simp] theorem resetRegisters_player (c : Cfg) (now : Nat) (s : State) : (resetRegisters c now s).player = ⟨c.defaultMelody, 0, Config.mNoteAtAtReset s.draws, 0, false, .silent⟩ := rfl
@[simp] theorem resetRegisters_notify (c : Cfg) (now : Nat) (s : State) : (resetRegisters c now s).notify = [] := rfl
@[simp] theorem resetRegisters_db (c : Cfg) (now : Nat) (s : State) : (resetRegisters c now s).db = ⟨Debounce.atReset now, Debounce.atReset now, Debounce.atReset now⟩ := rfl
@[simp] theorem resetRegisters_cfg (c : Cfg) (now : Nat) (s : State) : (resetRegisters c now s).cfg = c := rfl
@[simp] theorem resetRegisters_ports (c : Cfg) (now : Nat) (s : State) : (resetRegisters c now s).ports = s.ports := rfl
@[simp] theorem resetRegisters_inbox (c : Cfg) (now : Nat) (s : State) : (resetRegisters c now s).inbox = s.inbox := rfl
@[simp] theorem resetRegisters_window (c : Cfg) (now : Nat) (s : State) : (resetRegisters c now s).window = none := rfl
@[simp] theorem resetRegisters_conditions (c : Cfg) (now : Nat) (s : State) : (resetRegisters c now s).conditions = [] := rfl
@[simp] theorem resetRegisters_noted (c : Cfg) (now : Nat) (s : State) : (resetRegisters c now s).noted = [] := rfl
@[simp] theorem resetRegisters_result (c : Cfg) (now : Nat) (s : State) : (resetRegisters c now s).result = .none := rfl
@[simp] theorem resetRegisters_draws (c : Cfg) (now : Nat) (s : State) : (resetRegisters c now s).draws = s.draws + 1 := rfl

end Sys2Proof.Machine
end

