-- ==== Sys2Proof/Laws/Ops.lean ====
section
/-! SUPPORT. What each shared operation can do, said once: the closed form of an unconditional operation, the cases of
a conditional one. Proofs cite these instead of unfolding the operations. -/

namespace Sys2Proof.Machine

/-! ### Words and numbers -/

theorem satInc_toNat (c : Count) : (satInc c).toNat = min (c.toNat + 1) 255 := by
  unfold satInc
  split
  · subst_vars; rfl
  · have h1 := c.isLt
    have h2 : c.toNat ≠ 255 := fun h => by
      rename_i hc
      exact hc (BitVec.eq_of_toNat_eq h)
    rw [BitVec.toNat_add, Nat.mod_eq_of_lt (by simp; omega)]
    simp; omega

theorem satInc_ne_zero (c : Count) : satInc c ≠ 0#8 := fun h => by
  have := satInc_toNat c
  rw [h] at this
  simp at this; omega

theorem shiftIn_toNat (acc : Code) (b : Bool) : (shiftIn acc b).toNat = (2 * acc.toNat + b.toNat) % 2 ^ 32 := by
  have hb : ((BitVec.ofBool b).setWidth 32).toNat = b.toNat := by cases b <;> rfl
  have hs : (acc <<< 1).toNat = (acc.toNat % 2 ^ 31) <<< 1 := by
    rw [BitVec.toNat_shiftLeft, Nat.shiftLeft_eq, Nat.shiftLeft_eq]; omega
  have ho : (acc.toNat % 2 ^ 31) <<< 1 ||| b.toNat = (acc.toNat % 2 ^ 31) <<< 1 + b.toNat :=
    (Nat.shiftLeft_add_eq_or_of_lt (by cases b <;> decide) _).symm
  rw [shiftIn, BitVec.toNat_or, hb, hs, ho, Nat.shiftLeft_eq]
  have : b.toNat ≤ 1 := by cases b <;> decide
  omega

theorem toDuty_toNat (n : Nat) (h : n ≤ 255) : (toDuty n).toNat = n := by
  simp [toDuty]; omega

theorem toNat_toDuty (d : Duty) : toDuty d.toNat = d := by simp [toDuty]

theorem doorOfCode_doorCode (g : DoorState) : doorOfCode (doorCode g) = some g := by cases g <;> rfl

theorem doorOfCode_eq_some (c : BitVec 4) (g : DoorState) (h : doorOfCode c = some g) : c = doorCode g := by
  revert h
  unfold doorOfCode
  split <;> intro h <;> first | (cases h; done) | (injection h with h; subst h; rfl)

theorem authAnswer_eq_none (a : AuthWord) : authAnswer a = none ↔ a.code = 3#2 := by
  obtain ⟨c, l⟩ := a
  have : ∀ c : BitVec 2, c = 0#2 ∨ c = 1#2 ∨ c = 2#2 ∨ c = 3#2 := by decide
  rcases this c with h | h | h | h <;> subst h <;> simp [authAnswer]

/-- A formatter answers its first string for a listed argument, and `otherwise` for any other. -/
theorem formatCode_cases (f : Formatter) (code : Code) (bits : Count) :
    (∃ str, f.entries.lookup (code, bits) = some str ∧ formatCode f code bits = str) ∨
      (f.entries.lookup (code, bits) = none ∧ formatCode f code bits = f.otherwise) := by
  unfold formatCode
  cases f.entries.lookup (code, bits) with
  | some str => exact .inl ⟨str, rfl, rfl⟩
  | none => exact .inr ⟨rfl, rfl⟩

theorem memRead_eq_some (m : Melody) (i : Nat) (n : Note) (h : memRead m i = some n) : i < m.notes.length :=
  (List.getElem?_eq_some_iff.mp h).1

theorem memRead_isSome (m : Melody) (i : Nat) : (memRead m i).isSome = decide (i < m.notes.length) := by
  by_cases h : i < m.notes.length <;> simp [memRead, h]

/-! ### The Wiegand decoder -/

theorem edge_eq (b : Bool) (now : Nat) (s : State) :
    edge b now s =
      { s with
        w := edgeGroup b now s.w
        noted := s.noted ++ if s.w.cnt.toNat < 32 then [] else [.overlong (satInc s.w.cnt)] } := by
  unfold edge note Config.accBits
  by_cases h : s.w.cnt.toNat < 32 <;> simp [h]

theorem pollCommit_stay (p : PollSnap) (s : State) (h : p.go = false) : pollCommit p s = s := by
  simp [pollCommit, h]

theorem pollCommit_publish (p : PollSnap) (s : State) (h : p.go = true) (hm : s.cfg.minBits ≤ p.cnt.toNat) :
    pollCommit p s =
      { s with
        w := ⟨0#32, 0#8, s.w.last⟩
        f := ⟨p.acc, p.cnt, p.last, true⟩
        conditions := s.conditions ++ if s.f.avail then [.frameOverwrite] else [] } := by
  by_cases ha : s.f.avail <;> simp [pollCommit, publish, raise, h, hm, ha]

theorem pollCommit_short (p : PollSnap) (s : State) (h : p.go = true) (hm : ¬ s.cfg.minBits ≤ p.cnt.toNat) :
    pollCommit p s =
      { s with
        w := ⟨0#32, 0#8, s.w.last⟩
        conditions := s.conditions ++ [.shortFrame p.cnt] } := by
  simp [pollCommit, raise, h, hm]

/-- A poll changes at most the in-progress group, the frame buffer and the trace of conditions. -/
theorem pollCommit_frame (p : PollSnap) (s : State) :
    ∃ w f cs, pollCommit p s = { s with w := w, f := f, conditions := cs } := by
  cases hg : p.go
  · exact ⟨_, _, _, pollCommit_stay p s hg⟩
  · by_cases hm : s.cfg.minBits ≤ p.cnt.toNat
    · exact ⟨_, _, _, pollCommit_publish p s hg hm⟩
    · exact ⟨_, _, _, pollCommit_short p s hg hm⟩

theorem take_some (s : State) (h : s.f.avail = true) :
    take s = (some ⟨s.f.code, s.f.bits, s.f.at_⟩, { s with f := { s.f with avail := false } }) := by
  simp [take, h]

theorem take_none (s : State) (h : s.f.avail = false) : take s = (none, s) := by
  simp [take, h]

/-! ### The motor -/

theorem ramp_breakaway (c : Cfg) (e : Nat) (t : Nat) (h : e < c.fullPowerMs) : ramp c e t = c.breakawayDuty := by
  simp [ramp, h]

theorem ramp_window (c : Cfg) (e : Nat) (t : Nat) (h : c.fullPowerMs ≤ e) (h' : e < c.fullPowerMs + c.rampMs)
    (ht : t ≤ c.breakawayDuty) :
    ramp c e t = c.breakawayDuty - (c.breakawayDuty - t) * (e - c.fullPowerMs) / c.rampMs := by
  simp [ramp, Nat.not_lt.mpr h, h', ht]

theorem ramp_steady (c : Cfg) (e : Nat) (t : Nat) (h : c.fullPowerMs + c.rampMs ≤ e) : ramp c e t = t := by
  have h1 : ¬ e < c.fullPowerMs := Nat.not_lt.mpr (Nat.le_trans (Nat.le_add_right _ _) h)
  simp [ramp, h1, Nat.not_lt.mpr h]

/-- Every command is the brake, or drives one channel only. -/
theorem command_cases (c : Cfg) (g : DoorState) (e : Nat) :
    (isMotorDriving g = false ∧ command c g e = brakeCommand c) ∨
      (isMotorDriving g = true ∧ ((command c g e).a = 0#8 ∨ (command c g e).b = 0#8)) := by
  cases g <;> simp [isMotorDriving, command]

/-! ### The melody -/

theorem startPlayer_cases (m : Melody) (now : Nat) (p : Player) :
    (∃ n, memRead m 0 = some n ∧
      startPlayer m now p = ⟨m, 0, now, noteDuration m n, true, .tone n.frequency (noteDuration m n)⟩) ∨
    (memRead m 0 = none ∧ startPlayer m now p = ⟨m, 0, p.noteAt, 0, false, .silent⟩) := by
  unfold startPlayer
  cases h : memRead m 0 with
  | some n => exact .inl ⟨n, rfl, rfl⟩
  | none => exact .inr ⟨rfl, rfl⟩

theorem tickPlayer_cases (now : Nat) (p : Player) :
    ((p.playing && noteWindowOver p now) = false ∧ tickPlayer now p = p) ∨
    (p.playing = true ∧ noteWindowOver p now = true ∧ ∃ n, memRead p.mel (p.index + 1) = some n ∧
      tickPlayer now p =
        ⟨p.mel, p.index + 1, now, noteDuration p.mel n, true, .tone n.frequency (noteDuration p.mel n)⟩) ∨
    (p.playing = true ∧ noteWindowOver p now = true ∧ memRead p.mel (p.index + 1) = none ∧
      tickPlayer now p = ⟨p.mel, p.index + 1, p.noteAt, p.dur, false, .silent⟩) := by
  unfold tickPlayer
  cases hp : p.playing
  · simp
  · cases hw : noteWindowOver p now
    · simp
    · cases hm : memRead p.mel (p.index + 1) with
      | some n => exact .inr (.inl ⟨rfl, rfl, n, rfl, by simp [soundNote]⟩)
      | none => exact .inr (.inr ⟨rfl, rfl, rfl, by simp⟩)

/-! ### The door -/

theorem openRequest_locked (k : Kind) (l : Label) (now : Nat) (s : State) (h : s.door = .locked) :
    openRequest k l now s =
      { s with
        attr := l
        player := startPlayer (lookupMelody s.cfg s.cfg.melodySelect) now s.player
        door := preOpening k
        phaseAt := now
        notify := s.notify ++ [(preOpening k, l)] } := by
  cases k <;> simp [openRequest, h, enter, startMelody, preOpening, isMotorDriving]

theorem openRequest_ignored (k : Kind) (l : Label) (now : Nat) (s : State) (h : s.door ≠ .locked) :
    openRequest k l now s = raise .ignoredRequest s := by
  simp [openRequest, h]

theorem closeRequest_open (now : Nat) (s : State) (h : isOpen s.door = true) :
    closeRequest now s = enter .locking now s := by
  simp [closeRequest, h]

theorem closeRequest_ignored (now : Nat) (s : State) (h : isOpen s.door = false) :
    closeRequest now s = raise .ignoredRequest s := by
  simp [closeRequest, h]

/-- `SM.TIMED` does nothing, or enters one state after raising some conditions, along a row of the transition table. -/
theorem timed_cases (now : Nat) (s : State) :
    timed now s = s ∨
    ∃ g cs, timed now s = enter g now { s with conditions := s.conditions ++ cs } ∧
      ((s.door = .preOpeningToParcel ∧ g = .openingToParcel ∧ cs = [] ∧ openingDelayOver s now = true) ∨
       (s.door = .preOpeningToMail ∧ g = .openingToMail ∧ cs = [] ∧ openingDelayOver s now = true) ∨
       (isMotorDriving s.door = true ∧ g = .motorError ∧ cs = [.motorTimeout s.door] ∧ motorTimeoutOver s now = true) ∨
       (isOpen s.door = true ∧ g = .locking ∧ cs = [] ∧ dwellOver s now = true) ∨
       ((isOpen s.door = true ∧ dwellOver s now = false ∨ s.door = .locked) ∧ g = .locking ∧
          cs = [.failSafeRelock] ∧ inactive s now = true)) := by
  cases hd : s.door
  case motorError => exact .inl (by simp [timed, hd])
  case locked =>
    cases hi : inactive s now
    · exact .inl (by simp [timed, hd, hi])
    · exact .inr ⟨.locking, [.failSafeRelock], by simp [timed, hd, hi, raise], by simp [isOpen, isMotorDriving]⟩
  case preOpeningToParcel =>
    cases hi : openingDelayOver s now
    · exact .inl (by simp [timed, hd, hi])
    · exact .inr ⟨.openingToParcel, [], by rw [List.append_nil]; show timed now s = enter _ now s; simp [timed, hd, hi], by simp⟩
  case preOpeningToMail =>
    cases hi : openingDelayOver s now
    · exact .inl (by simp [timed, hd, hi])
    · exact .inr ⟨.openingToMail, [], by rw [List.append_nil]; show timed now s = enter _ now s; simp [timed, hd, hi], by simp⟩
  case openingToParcel | openingToMail | locking =>
    cases hi : motorTimeoutOver s now
    · exact .inl (by simp [timed, hd, hi])
    · exact .inr ⟨.motorError, _, by simp [timed, hd, hi, raise]; rfl, by simp [isMotorDriving]⟩
  case parcelOpen | mailOpen =>
    cases hw : dwellOver s now
    · cases hi : inactive s now
      · exact .inl (by simp [timed, hd, hi, hw])
      · exact .inr ⟨.locking, [.failSafeRelock], by simp [timed, hd, hi, hw, raise], by simp [isOpen]⟩
    · exact .inr ⟨.locking, [], by rw [List.append_nil]; show timed now s = enter _ now s; simp [timed, hd, hw], by simp [isOpen]⟩

/-- The transitions of `SM.SWITCH`: none, or the one of the state's own switch. -/
theorem switchTransition_cases (now : Nat) (s : State) :
    switchTransition now s = s ∨
    ∃ g, switchTransition now s = enter g now s ∧
      ((s.door = .openingToParcel ∧ g = .parcelOpen ∧ s.db.parcel.out = true) ∨
       (s.door = .openingToMail ∧ g = .mailOpen ∧ s.db.mail.out = true) ∨
       (s.door = .locking ∧ g = .locked ∧ s.db.closed.out = true)) := by
  cases hd : s.door
  case openingToParcel =>
    cases hi : s.db.parcel.out
    · exact .inl (by simp [switchTransition, hd, hi])
    · exact .inr ⟨.parcelOpen, by simp [switchTransition, hd, hi], by simp⟩
  case openingToMail =>
    cases hi : s.db.mail.out
    · exact .inl (by simp [switchTransition, hd, hi])
    · exact .inr ⟨.mailOpen, by simp [switchTransition, hd, hi], by simp⟩
  case locking =>
    cases hi : s.db.closed.out
    · exact .inl (by simp [switchTransition, hd, hi])
    · exact .inr ⟨.locked, by simp [switchTransition, hd, hi], by simp⟩
  all_goals exact .inl (by simp [switchTransition, hd])

/-- What the answer to a taken frame does to the state. -/
theorem applyAuth_cases (a : AuthAnswer) (fr : Frame) (now : Nat) (s : State) :
    (∃ k l, applyAuth a fr now s = openRequest k l now s ∧ (a = .owner l ∧ k = .mail ∨ a = .delivery l ∧ k = .parcel)) ∨
    (a = .noMatch ∧ applyAuth a fr now s = raise (.noMatch fr.code fr.bitCount) s) := by
  cases a with
  | noMatch => exact .inr ⟨rfl, rfl⟩
  | owner l => exact .inl ⟨.mail, l, rfl, .inl ⟨rfl, rfl⟩⟩
  | delivery l => exact .inl ⟨.parcel, l, rfl, .inr ⟨rfl, rfl⟩⟩

/-- Taking and authorizing: no frame, a frame with an answer, or a frame with the reserved answer code. -/
theorem takeAndAuthorize_cases (now : Nat) (auth : AuthWord) (s : State) :
    (s.f.avail = false ∧ takeAndAuthorize now auth s = .next s) ∨
    (s.f.avail = true ∧ ∃ a, authAnswer auth = some a ∧
      takeAndAuthorize now auth s =
        .next (applyAuth a ⟨s.f.code, s.f.bits, s.f.at_⟩ now
          { s with f := { s.f with avail := false }, diag := ⟨s.f.code, s.f.bits⟩ })) ∨
    (s.f.avail = true ∧ authAnswer auth = none ∧ takeAndAuthorize now auth s = .refused .reservedAuthCode) := by
  unfold takeAndAuthorize
  cases hv : s.f.avail
  · exact .inl ⟨rfl, by simp [take_none s hv]⟩
  · cases ha : authAnswer auth with
    | none => exact .inr (.inr ⟨rfl, rfl, by simp [take_some s hv]⟩)
    | some a => exact .inr (.inl ⟨rfl, a, rfl, by simp [take_some s hv]⟩)

theorem cred_locked_atomic (now : Nat) (auth : AuthWord) (s : State) (h : s.door = .locked) (ha : s.cfg.pollAtomic = true) :
    cred now auth s = takeAndAuthorize now auth (poll now s) := by
  simp [cred, h, ha]

theorem cred_locked_split (now : Nat) (auth : AuthWord) (s : State) (h : s.door = .locked) (ha : s.cfg.pollAtomic = false) :
    cred now auth s = .next (openPoll .cred now auth s) := by
  simp [cred, h, ha]

theorem cred_elsewhere (now : Nat) (auth : AuthWord) (s : State) (h : s.door ≠ .locked) :
    cred now auth s = .next s := by
  simp [cred, h]

/-- An open request writes only the door registers, the attribution, the melody registers, `NOTIFY` (at most one entry
more) and the trace of conditions. -/
theorem openRequest_frame (k : Kind) (l : Label) (now : Nat) (s : State) :
    ∃ g a at_ pl n cs, openRequest k l now s =
        { s with door := g, phaseAt := a, attr := at_, player := pl, notify := s.notify ++ n, conditions := cs } ∧
      n.length ≤ 1 := by
  by_cases h : s.door = .locked
  · exact ⟨_, _, _, _, [(preOpening k, l)], _, openRequest_locked k l now s h, Nat.le_refl 1⟩
  · exact ⟨s.door, s.phaseAt, s.attr, s.player, [], s.conditions ++ [.ignoredRequest],
      by rw [openRequest_ignored k l now s h, List.append_nil]; rfl, Nat.zero_le 1⟩

/-- Taking and authorizing writes only the frame buffer, the diagnostics, what an open request writes, and the trace of
conditions. -/
theorem takeAndAuthorize_frame (now : Nat) (auth : AuthWord) (s t : State)
    (h : takeAndAuthorize now auth s = .next t) :
    ∃ f g a at_ dg pl n cs, t =
        { s with f := f, door := g, phaseAt := a, attr := at_, diag := dg, player := pl, notify := s.notify ++ n
                 conditions := cs } ∧ n.length ≤ 1 := by
  rcases takeAndAuthorize_cases now auth s with ⟨-, k⟩ | ⟨-, answer, -, k⟩ | ⟨-, -, k⟩
  · rw [k] at h
    injection h with h
    exact ⟨s.f, s.door, s.phaseAt, s.attr, s.diag, s.player, [], s.conditions, by rw [← h, List.append_nil],
      Nat.zero_le 1⟩
  · rw [k] at h
    injection h with h
    rcases applyAuth_cases answer ⟨s.f.code, s.f.bits, s.f.at_⟩ now
      { s with f := { s.f with avail := false }, diag := ⟨s.f.code, s.f.bits⟩ } with ⟨kind, l, e, -⟩ | ⟨-, e⟩
    · obtain ⟨g, a, at_, pl, n, cs, e', hn⟩ := openRequest_frame kind l now
        { s with f := { s.f with avail := false }, diag := ⟨s.f.code, s.f.bits⟩ }
      exact ⟨_, g, a, at_, _, pl, n, cs, by rw [← h, e, e'], hn⟩
    · exact ⟨_, s.door, s.phaseAt, s.attr, _, s.player, [], _, by rw [← h, e, List.append_nil]; rfl, Nat.zero_le 1⟩
  · rw [k] at h
    cases h

/-- `SM.CRED` writes only the reader's registers, what taking and authorizing writes, and the open poll. -/
theorem cred_frame (now : Nat) (auth : AuthWord) (s t : State) (h : cred now auth s = .next t) :
    ∃ w f g a at_ dg pl n wd cs, t =
        { s with w := w, f := f, door := g, phaseAt := a, attr := at_, diag := dg, player := pl
                 notify := s.notify ++ n, window := wd, conditions := cs } ∧ n.length ≤ 1 := by
  by_cases hl : s.door = .locked
  · cases hp : s.cfg.pollAtomic
    · rw [cred_locked_split now auth s hl hp] at h
      injection h with h
      exact ⟨s.w, s.f, s.door, s.phaseAt, s.attr, s.diag, s.player, [], _, s.conditions,
        by rw [← h, List.append_nil]; rfl, Nat.zero_le 1⟩
    · rw [cred_locked_atomic now auth s hl hp] at h
      obtain ⟨w, f, cs, e⟩ := pollCommit_frame (pollSnap now s) s
      rw [poll, e] at h
      obtain ⟨f', g, a, at_, dg, pl, n, cs', e', hn⟩ := takeAndAuthorize_frame now auth _ t h
      exact ⟨w, f', g, a, at_, dg, pl, n, s.window, cs', e', hn⟩
  · rw [cred_elsewhere now auth s hl] at h
    injection h with h
    exact ⟨s.w, s.f, s.door, s.phaseAt, s.attr, s.diag, s.player, [], s.window, s.conditions,
      by rw [← h, List.append_nil], Nat.zero_le 1⟩

/-- `SM.CRED` is refused only with the reserved `AUTH` code. -/
theorem cred_completes (now : Nat) (auth : AuthWord) (s : State) (h : auth.code ≠ 3#2) :
    ∃ t, cred now auth s = .next t := by
  by_cases hl : s.door = .locked
  · cases hp : s.cfg.pollAtomic
    · exact ⟨_, cred_locked_split now auth s hl hp⟩
    · rw [cred_locked_atomic now auth s hl hp]
      rcases takeAndAuthorize_cases now auth (poll now s) with ⟨-, k⟩ | ⟨-, answer, -, k⟩ | ⟨-, k, -⟩
      · exact ⟨_, k⟩
      · exact ⟨_, k⟩
      · exact absurd ((authAnswer_eq_none auth).mp k) h
  · exact ⟨_, cred_elsewhere now auth s hl⟩

/-! ### The tick's front -/

/-- `SM.TIMED` writes only door registers, `NOTIFY` and the trace of conditions. -/
theorem timed_frame (now : Nat) (s : State) :
    ∃ g a b n cs, timed now s = { s with door := g, phaseAt := a, motorAt := b, notify := n, conditions := cs } := by
  rcases timed_cases now s with h | ⟨g, cs, h, -⟩
  · exact ⟨_, _, _, _, _, h⟩
  · exact ⟨_, _, _, _, _, h⟩

/-- `SM.SWITCH` writes only door registers, `NOSW_SINCE` and `NOTIFY`. -/
theorem switches_frame (now : Nat) (s : State) :
    ∃ g a b n, switches now s =
      { s with door := g, phaseAt := a, motorAt := b, notify := n
               noswSince := nextNosw (anyEngaged s.db) now s.noswSince } := by
  unfold switches
  rcases switchTransition_cases now (recordNosw now s) with h | ⟨g, h, -⟩
  · exact ⟨_, _, _, _, h⟩
  · exact ⟨_, _, _, _, h⟩

/-- Steps 0 to 4 of a tick write only the conditioning, door, motor and melody registers, `NOTIFY` and the trace of
conditions: not the in-progress group, the frame buffer, the attribution, the diagnostics, the configuration or the
input side. -/
theorem tickFront_frame (l : Levels) (now : Nat) (s : State) :
    ∃ g a b n cs ns pw d, tickFront l now s =
      { s with door := g, phaseAt := a, motorAt := b, notify := n, conditions := cs, noswSince := ns, pwm := pw, db := d
               player := tickPlayer now s.player } := by
  unfold tickFront
  obtain ⟨g, a, b, n, cs, h⟩ := timed_frame now (sampleSwitches l now s)
  obtain ⟨g', a', b', n', h'⟩ := switches_frame now (tickMelody now (writeMotor now (timed now (sampleSwitches l now s))))
  rw [h', h]
  exact ⟨_, _, _, _, _, _, _, _, rfl⟩

/-! ### The step -/

theorem step_idle (s : State) (hw : s.window = none) (hi : s.inbox = []) : step s = .next s := by
  simp [step, agenda, hw, hi]

/-- With a poll open, anything but an edge that falls inside it waits until the poll is completed. -/
theorem agenda_closePoll (s : State) (p : PollWindow) (hw : s.window = some p)
    (hh : ∀ e ∈ s.inbox.head?, fallsInPoll e = false) : agenda s = .closePoll p := by
  unfold agenda
  rw [hw]
  cases hi : s.inbox with
  | nil => rfl
  | cons e rest => simp [hh e (by rw [hi]; rfl)]

theorem step_perform (s : State) (e : Event) (rest : List Event) (i : Instr) (ha : agenda s = .perform e rest)
    (hi : acceptEvent e s = .ok i) : step s = exec i (present e rest s) := by
  simp [step, ha, hi]

theorem step_closePoll (s : State) (p : PollWindow) (ha : agenda s = .closePoll p) : step s = closePoll p s := by
  simp [step, ha]

theorem acceptEvent_eq_ok (e : Event) (s : State) (i : Instr) (h : acceptEvent e s = .ok i) :
    decodeWord e.word = .ok i ∧ mayPerform e.source i = true ∧ s.ports.now ≤ e.ports.now := by
  unfold acceptEvent at h
  cases hd : decodeWord e.word with
  | error r => simp [hd] at h
  | ok j =>
    simp only [hd] at h
    split at h
    · split at h
      · injection h with h; subst h; exact ⟨rfl, ‹_›, ‹_›⟩
      · cases h
    · cases h

/-- A step that answers a next state idled, completed an open poll, or performed an accepted operation. -/
theorem step_cases (s t : State) (h : step s = .next t) :
    (s.window = none ∧ s.inbox = [] ∧ t = s) ∨
    (∃ p, s.window = some p ∧ agenda s = .closePoll p ∧ closePoll p s = .next t) ∨
    (∃ e rest i, s.inbox = e :: rest ∧ agenda s = .perform e rest ∧ acceptEvent e s = .ok i ∧
      exec i (present e rest s) = .next t) := by
  cases hg : agenda s with
  | idle =>
    simp only [step, hg, Host.Outcome.next.injEq] at h
    unfold agenda at hg
    split at hg <;> first | exact .inl ⟨‹_›, ‹_›, h.symm⟩ | cases hg | (split at hg <;> cases hg)
  | closePoll p =>
    rw [step_closePoll s p hg] at h
    unfold agenda at hg
    split at hg
    · cases hg
    · cases hg
    · injection hg with hg; subst hg; exact .inr (.inl ⟨_, ‹_›, rfl, h⟩)
    · split at hg
      · cases hg
      · injection hg with hg; subst hg; exact .inr (.inl ⟨_, ‹_›, rfl, h⟩)
  | perform e rest =>
    have hin : s.inbox = e :: rest := by
      unfold agenda at hg
      split at hg <;> first
        | (cases hg; done)
        | (injection hg with h1 h2; subst h1; subst h2; assumption)
        | (split at hg <;> first | (cases hg; done) | (injection hg with h1 h2; subst h1; subst h2; assumption))
    cases hi : acceptEvent e s with
    | error r => simp [step, hg, hi] at h
    | ok i => exact .inr (.inr ⟨e, rest, i, hin, rfl, hi, step_perform s e rest i hg hi ▸ h⟩)

end Sys2Proof.Machine
end

