-- ==== Sys2Proof/Laws/PerInstr.lean ====
section
/-! SUPPORT. Per operation: its event word matches its own row of spec/opcode_table.json and decodes to it
(30_encoding.md R104). -/

namespace Sys2Proof.Laws

/-- `mask` and `match` of a row of spec/opcode_table.json. -/
structure Row where
  mask : EventWord
  pattern : EventWord
  deriving DecidableEq, Repr

/-- The row of each operation. -/
def rowOf : Instr → Row
  | .edge0 => ⟨0xFF#8, 0x00#8⟩
  | .edge1 => ⟨0xFF#8, 0x01#8⟩
  | .reqOpenParcel => ⟨0xFF#8, 0x10#8⟩
  | .reqOpenMail => ⟨0xFF#8, 0x11#8⟩
  | .reqClose => ⟨0xFF#8, 0x12#8⟩
  | .tick _ _ _ => ⟨0xF8#8, 0x20#8⟩
  | .dbSample => ⟨0xFF#8, 0x80#8⟩
  | .smTimed => ⟨0xFF#8, 0x81#8⟩
  | .mWrite => ⟨0xFF#8, 0x82#8⟩
  | .sTick => ⟨0xFF#8, 0x83#8⟩
  | .smSwitch => ⟨0xFF#8, 0x84#8⟩
  | .smCred => ⟨0xFF#8, 0x85#8⟩
  | .wPoll => ⟨0xFF#8, 0x88#8⟩
  | .wTake => ⟨0xFF#8, 0x89#8⟩
  | .sStart => ⟨0xFF#8, 0x8A#8⟩
  | .mRamp => ⟨0xFF#8, 0x8B#8⟩
  | .smEnter => ⟨0xFF#8, 0x8C#8⟩
  | .mCmd => ⟨0xFF#8, 0x8D#8⟩
  | .reset => ⟨0xFF#8, 0xF0#8⟩

/-- The encoded word carries its row's pattern, and decodes to the operation. -/
def EncodesToItsRow.Statement (i : Instr) : Prop :=
  encodeWord i &&& (rowOf i).mask = (rowOf i).pattern ∧ decodeWord (encodeWord i) = .ok i

theorem EncodesToItsRow.edge0 : EncodesToItsRow.Statement .edge0 := ⟨rfl, rfl⟩

theorem EncodesToItsRow.edge1 : EncodesToItsRow.Statement .edge1 := ⟨rfl, rfl⟩

theorem EncodesToItsRow.reqOpenParcel : EncodesToItsRow.Statement .reqOpenParcel := ⟨rfl, rfl⟩

theorem EncodesToItsRow.reqOpenMail : EncodesToItsRow.Statement .reqOpenMail := ⟨rfl, rfl⟩

theorem EncodesToItsRow.reqClose : EncodesToItsRow.Statement .reqClose := ⟨rfl, rfl⟩

theorem EncodesToItsRow.tick (c p m : Bool) : EncodesToItsRow.Statement (.tick c p m) := by
  cases c <;> cases p <;> cases m <;> exact ⟨rfl, rfl⟩

theorem EncodesToItsRow.dbSample : EncodesToItsRow.Statement .dbSample := ⟨rfl, rfl⟩

theorem EncodesToItsRow.smTimed : EncodesToItsRow.Statement .smTimed := ⟨rfl, rfl⟩

theorem EncodesToItsRow.mWrite : EncodesToItsRow.Statement .mWrite := ⟨rfl, rfl⟩

theorem EncodesToItsRow.sTick : EncodesToItsRow.Statement .sTick := ⟨rfl, rfl⟩

theorem EncodesToItsRow.smSwitch : EncodesToItsRow.Statement .smSwitch := ⟨rfl, rfl⟩

theorem EncodesToItsRow.smCred : EncodesToItsRow.Statement .smCred := ⟨rfl, rfl⟩

theorem EncodesToItsRow.wPoll : EncodesToItsRow.Statement .wPoll := ⟨rfl, rfl⟩

theorem EncodesToItsRow.wTake : EncodesToItsRow.Statement .wTake := ⟨rfl, rfl⟩

theorem EncodesToItsRow.sStart : EncodesToItsRow.Statement .sStart := ⟨rfl, rfl⟩

theorem EncodesToItsRow.mRamp : EncodesToItsRow.Statement .mRamp := ⟨rfl, rfl⟩

theorem EncodesToItsRow.smEnter : EncodesToItsRow.Statement .smEnter := ⟨rfl, rfl⟩

theorem EncodesToItsRow.mCmd : EncodesToItsRow.Statement .mCmd := ⟨rfl, rfl⟩

theorem EncodesToItsRow.reset : EncodesToItsRow.Statement .reset := ⟨rfl, rfl⟩

end Sys2Proof.Laws
end

