-- ==== Sys2Proof/Tests/Slice0.lean ====
section
/-! SUPPORT. Tests with expected results from spec/ (the examples of the rules, 95_test_vectors.md), and a concrete
state for every statement that has hypotheses. -/

namespace Sys2Proof.Tests

open Sys2Proof.Machine Sys2Proof.Claims

/-! ### Helpers -/

/-- A machine at rest in `Locked`, under the configuration `CfgT` of 95_test_vectors.md, with every register written. -/
def base : State where
  w := ⟨0#32, 0#8, 0⟩
  f := ⟨0#32, 0#8, 0, false⟩
  door := .locked
  phaseAt := 0
  motorAt := 0
  noswSince := none
  attr := "a"
  diag := ⟨0#32, 0#8⟩
  pwm := ⟨255#8, 255#8⟩
  player := ⟨Config.powerOn.defaultMelody, 0, 0, 0, false, .silent⟩
  notify := []
  db := ⟨⟨false, false, 0⟩, ⟨false, false, 0⟩, ⟨false, false, 0⟩⟩
  cfg := Config.powerOn
  ports := Ports.powerOn
  inbox := []
  window := none
  conditions := []
  noted := []
  result := .none
  draws := 1

/-- `base` in door state `g`, entered at `at_`, at time `now`. -/
def inDoor (g : DoorState) (at_ now : Nat) : State :=
  { base with door := g, phaseAt := at_, motorAt := at_, ports := { base.ports with now := now } }

/-- `base` with the in-progress group `(acc, cnt, last)`, at time `now`. -/
def receiving (acc : Code) (cnt : Count) (last now : Nat) : State :=
  { base with w := ⟨acc, cnt, last⟩, ports := { base.ports with now := now } }

/-- `base` with the answer `auth` on its port, in the situation of `receiving`. -/
def answered (code : BitVec 2) (l : Label) (s : State) : State :=
  { s with ports := { s.ports with auth := ⟨code, l⟩ } }

/-- `base` with the switch levels as the conditioned levels, in door state `g`, at time `now`. -/
def switched (g : DoorState) (c p m : Bool) (now : Nat) : State :=
  { inDoor g 0 now with db := ⟨⟨c, c, 0⟩, ⟨p, p, 0⟩, ⟨m, m, 0⟩⟩ }

/-- `base` with a melody that plays its note `i` since `at_`, at time `now`. -/
def playing (i at_ dur now : Nat) : State :=
  { base with
    player := ⟨⟨[⟨440, 4⟩, ⟨880, 8⟩], 1000⟩, i, at_, dur, true, .tone 440 dur⟩
    ports := { base.ports with now := now } }

/-- One field of the next state, if there is one. -/
def look {α : Type} (o : Host.Outcome State Fault Refusal) (f : State → α) : Option α :=
  match o with
  | .next t => some (f t)
  | .fault _ => none
  | .refused _ => none

/-- The reason of a refusal, if there is one. -/
def why (o : Host.Outcome State Fault Refusal) : Option Refusal :=
  match o with
  | .next _ => none
  | .fault _ => none
  | .refused r => some r

/-- An event at time `now`. -/
def event (v : EventWord) (a : Agent) (inPoll : Bool) (now : Nat) : Event :=
  ⟨v, a, inPoll, { Ports.powerOn with now := now }⟩

/-! ### WellFormed: one ill-formed configuration for each check (00_scope.md R9), and the well-formed one -/

theorem test_wf_example : Config.powerOn.wf = true := by decide

theorem test_wf_duty_range : ({ Config.powerOn with breakawayDuty := 256 } : Cfg).wf = false ∧
    ({ Config.powerOn with dutyOpen := 256, breakawayDuty := 300 } : Cfg).dutiesInRange = false ∧
    ({ Config.powerOn with dutyClose := 256 } : Cfg).dutiesInRange = false ∧
    ({ Config.powerOn with brake := 256 } : Cfg).wf = false := by decide

theorem test_wf_breakaway_highest : ({ Config.powerOn with dutyOpen := 255 } : Cfg).wf = false ∧
    ({ Config.powerOn with dutyClose := 255 } : Cfg).wf = false := by decide

theorem test_wf_default_sounds : ({ Config.powerOn with defaultMelody := ⟨[], 800⟩ } : Cfg).wf = false := by decide

theorem test_wf_divisors : ({ Config.powerOn with defaultMelody := ⟨[⟨523, 0⟩], 800⟩ } : Cfg).wf = false ∧
    ({ Config.powerOn with melodyTable := [("x", ⟨[⟨440, 4⟩, ⟨1, 0⟩], 1000⟩)] } : Cfg).wf = false := by decide

theorem test_wf_min_bits : ({ Config.powerOn with minBits := 0 } : Cfg).wf = false := by decide

/-! ### Decode: words written out bit by bit from 30_encoding.md R92 to R95 -/

theorem test_decode_edges : decodeWord 0b00000000#8 = .ok .edge0 ∧ decodeWord 0b00000001#8 = .ok .edge1 := by decide

theorem test_decode_requests : decodeWord 0b00010000#8 = .ok .reqOpenParcel ∧
    decodeWord 0b00010001#8 = .ok .reqOpenMail ∧ decodeWord 0b00010010#8 = .ok .reqClose := by decide

theorem test_decode_ticks : decodeWord 0b00100000#8 = .ok (.tick false false false) ∧
    decodeWord 0b00100001#8 = .ok (.tick false false true) ∧ decodeWord 0b00100010#8 = .ok (.tick false true false) ∧
    decodeWord 0b00100100#8 = .ok (.tick true false false) ∧ decodeWord 0b00100111#8 = .ok (.tick true true true) := by
  decide

theorem test_decode_steps : decodeWord 0b10000000#8 = .ok .dbSample ∧ decodeWord 0b10000001#8 = .ok .smTimed ∧
    decodeWord 0b10000010#8 = .ok .mWrite ∧ decodeWord 0b10000011#8 = .ok .sTick ∧
    decodeWord 0b10000100#8 = .ok .smSwitch ∧ decodeWord 0b10000101#8 = .ok .smCred := by decide

theorem test_decode_parts : decodeWord 0b10001000#8 = .ok .wPoll ∧ decodeWord 0b10001001#8 = .ok .wTake ∧
    decodeWord 0b10001010#8 = .ok .sStart ∧ decodeWord 0b10001011#8 = .ok .mRamp ∧
    decodeWord 0b10001100#8 = .ok .smEnter ∧ decodeWord 0b10001101#8 = .ok .mCmd := by decide

theorem test_decode_reset : decodeWord 0b11110000#8 = .ok .reset := by decide

/-- 30_encoding.md R105: reserved words at the edges of the used classes. -/
theorem test_decode_reserved : decodeWord 0x02#8 = .error (.reservedFunction 0x0#4 0x2#4) ∧
    decodeWord 0x13#8 = .error (.reservedFunction 0x1#4 0x3#4) ∧ decodeWord 0x28#8 = .error (.reservedFunction 0x2#4 0x8#4) ∧
    decodeWord 0x7F#8 = .error (.reservedClass 0x7#4) ∧ decodeWord 0x86#8 = .error (.reservedFunction 0x8#4 0x6#4) ∧
    decodeWord 0x8E#8 = .error (.reservedFunction 0x8#4 0xE#4) ∧ decodeWord 0xF1#8 = .error (.reservedFunction 0xF#4 0x1#4) ∧
    decode [] = .error .noWord := by decide

/-- The table's words, as the host asks for them. -/
theorem test_decode_table_word : decodeTableWord 8 0x8C = some .smEnter ∧ decodeTableWord 8 0x90 = none ∧
    decodeTableWord 8 0x120 = some (.tick false false false) ∧ decodeTableWord 16 0x120 = none := by decide

/-! ### The Wiegand decoder -/

/-- 40_wiegand_decoder.md R121, its example. -/
theorem test_edge0_example : look (exec .edge0 (receiving 5#32 3#8 0 1000)) (·.w) = some ⟨0xA#32, 4#8, 1000⟩ := by decide

/-- 95_test_vectors.md B1.1: the 32nd bit still shifts, the 33rd is counted only. -/
theorem test_edge0_cap : look (exec .edge0 (receiving 0x7FFFFFFF#32 31#8 130 131)) (·.w) = some ⟨0xFFFFFFFE#32, 32#8, 131⟩ ∧
    look (exec .edge0 (receiving 0xFFFFFFFE#32 32#8 131 132)) (fun t => (t.w, t.conditions, t.noted)) =
      some (⟨0xFFFFFFFE#32, 33#8, 132⟩, [], [.overlong 33#8]) := by decide

/-- 40_wiegand_decoder.md R122, its example. -/
theorem test_edge1_example : look (exec .edge1 (receiving 5#32 3#8 0 1000)) (·.w) = some ⟨0xB#32, 4#8, 1000⟩ := by decide

/-- 40_wiegand_decoder.md R122 (31 ones and one more) and 95_test_vectors.md B1.1 (saturation at 255). -/
theorem test_edge1_cap : look (exec .edge1 (receiving 0x7FFFFFFF#32 31#8 0 9)) (·.w) = some ⟨0xFFFFFFFF#32, 32#8, 9⟩ ∧
    look (exec .edge1 (receiving 1#32 255#8 0 9)) (·.w) = some ⟨1#32, 255#8, 9⟩ := by decide

/-- 40_wiegand_decoder.md R124: nothing at 50 ms of silence, published at 51. -/
theorem test_poll_quiet : look (exec .wPoll (receiving 0xB#32 4#8 1000 1050)) (fun t => (t.w, t.f.avail)) =
      some (⟨0xB#32, 4#8, 1000⟩, false) ∧
    look (exec .wPoll (receiving 0xB#32 4#8 1000 1051)) (fun t => (t.w, t.f)) =
      some (⟨0#32, 0#8, 1000⟩, ⟨0xB#32, 4#8, 1000, true⟩) := by decide

/-- 95_test_vectors.md B1.6: a short frame behind a pending one. -/
theorem test_poll_short :
    look (exec .wPoll { receiving 0#32 1#8 200 300 with f := ⟨0xF#32, 4#8, 3, true⟩ }) (fun t => (t.w, t.f, t.conditions)) =
      some (⟨0#32, 0#8, 200⟩, ⟨0xF#32, 4#8, 3, true⟩, [.shortFrame 1#8]) := by decide

/-- 40_wiegand_decoder.md R126: the frame once, then none. -/
theorem test_take :
    look (exec .wTake { base with f := ⟨0xB#32, 4#8, 1000, true⟩ }) (fun t => (t.result, t.f.avail)) =
      some (.frame (some ⟨0xB#32, 4#8, 1000⟩), false) ∧
    look (exec .wTake { base with f := ⟨0xB#32, 4#8, 1000, false⟩ }) (·.result) = some (.frame none) := by decide

/-! ### The motor -/

/-- 95_test_vectors.md B2.1: target 180. -/
theorem test_ramp_values : [0, 199, 200, 203, 204, 350, 499, 500, 2000].map (fun e => ramp Config.powerOn e 180) =
    [255, 255, 255, 255, 254, 218, 181, 180, 180] := by decide

/-- 95_test_vectors.md B2.2: no window, no ramp, target above breakaway; and `M.RAMP` alone at 350. -/
theorem test_ramp_corners : ramp { Config.powerOn with fullPowerMs := 0, rampMs := 0 } 0 180 = 180 ∧
    ramp { Config.powerOn with rampMs := 0 } 200 180 = 180 ∧
    [0, 10, 11, 15, 19, 20].map (fun e => ramp { Config.powerOn with breakawayDuty := 100, fullPowerMs := 10, rampMs := 10 } e 200) =
      [100, 100, 110, 150, 190, 200] ∧
    look (exec .mRamp { base with ports := { base.ports with elapsed := 350, target := 180#8 } }) (·.result) =
      some (.duty 218#8) := by decide

/-- 95_test_vectors.md B2.3: the commands as words. -/
theorem test_command : packCommand (command Config.powerOn .openingToMail 350) = 0xDA00#16 ∧
    packCommand (command Config.powerOn .locking 350) = 0x00CB#16 ∧
    packCommand (command Config.powerOn .motorError 0) = 0xFFFF#16 ∧
    look (exec .mCmd { base with ports := { base.ports with elapsed := 500, stateCode := 7#4 } }) (·.result) =
      some (.command ⟨0#8, 150#8⟩) := by decide

/-- 41_motor_ramp.md R146, its example. -/
theorem test_motor_write : look (exec .mWrite (inDoor .locking 3000 3350)) (·.pwm) = some ⟨0#8, 203#8⟩ := by decide

/-! ### The melody -/

/-- 95_test_vectors.md B4.1 and B4.2 (b): a known and an unknown name. -/
theorem test_start : look (exec .sStart { base with ports := { base.ports with sel := "confirm" } }) (·.player) =
      some ⟨⟨[⟨440, 4⟩, ⟨880, 8⟩], 1000⟩, 0, 0, 250, true, .tone 440 250⟩ ∧
    look (exec .sStart { playing 1 301 125 400 with ports := { base.ports with now := 400, sel := "zzz" } })
      (fun t => (t.player.index, t.player.noteAt, t.player.dur, t.player.buz)) = some (0, 400, 100, .tone 523 100) := by
  decide

/-- 95_test_vectors.md B4.2 (d): an empty melody. -/
theorem test_start_empty :
    look (exec .sStart
        { playing 1 301 125 400 with
          cfg := { Config.powerOn with melodyTable := [("e", ⟨[], 1⟩)] }
          ports := { base.ports with now := 400, sel := "e" } })
      (·.player) = some ⟨⟨[], 1⟩, 0, 301, 0, false, .silent⟩ := by decide

/-- 95_test_vectors.md B4.1: the first note's window, at 300 and 301. -/
theorem test_melody_tick : look (exec .sTick (playing 0 0 250 300)) (·.player.index) = some 0 ∧
    look (exec .sTick (playing 0 0 250 301)) (fun t => (t.player.index, t.player.noteAt, t.player.dur, t.player.buz)) =
      some (1, 301, 125, .tone 880 125) := by decide

/-- 95_test_vectors.md B4.1: the last note's window, at 451 and 452. -/
theorem test_melody_end : look (exec .sTick (playing 1 301 125 451)) (·.player.playing) = some true ∧
    look (exec .sTick (playing 1 301 125 452)) (fun t => (t.player.index, t.player.noteAt, t.player.playing, t.player.buz)) =
      some (2, 301, false, .silent) := by decide

/-! ### The door -/

/-- 42_door_state_machine.md R160, its example. -/
theorem test_enter : look (exec .smEnter { inDoor .preOpeningToMail 0 701 with ports := { base.ports with now := 701, stateCode := 5#4 } })
    (fun t => (t.door, t.phaseAt, t.motorAt, t.notify)) = some (.openingToMail, 701, 701, [(.openingToMail, "a")]) := by decide

/-- 30_encoding.md R105: state codes 9 and above. -/
theorem test_enter_reserved : why (exec .smEnter { base with ports := { base.ports with stateCode := 9#4 } }) =
    some (.reservedStateCode 9#4) := by decide

/-- 95_test_vectors.md B3.1. -/
theorem test_open_parcel : look (exec .reqOpenParcel { inDoor .locked 0 50 with ports := { base.ports with now := 50, label := "b" } })
      (fun t => (t.door, t.attr, t.phaseAt, t.player.playing)) = some (.preOpeningToParcel, "b", 50, true) ∧
    look (exec .reqOpenParcel (inDoor .locking 0 50)) (fun t => (t.door, t.attr, t.conditions)) =
      some (.locking, "a", [.ignoredRequest]) := by decide

/-- 95_test_vectors.md B3.1. -/
theorem test_open_mail : look (exec .reqOpenMail { inDoor .locked 0 50 with ports := { base.ports with now := 50, label := "b" } })
      (fun t => (t.door, t.player.buz, t.notify)) =
        some (.preOpeningToMail, .tone 440 250, [(.preOpeningToMail, "b")]) ∧
    look (exec .reqOpenMail (inDoor .motorError 0 50)) (fun t => (t.door, t.attr)) = some (.motorError, "a") := by decide

/-- 95_test_vectors.md B3.1. -/
theorem test_close : look (exec .reqClose (inDoor .mailOpen 0 50)) (fun t => (t.door, t.phaseAt, t.motorAt, t.notify)) =
      some (.locking, 50, 50, [(.locking, "a")]) ∧
    look (exec .reqClose (inDoor .locked 0 50)) (fun t => (t.door, t.conditions)) = some (.locked, [.ignoredRequest]) := by
  decide

/-- 95_test_vectors.md B3.2: the pre-opening delay and the motor timeout at their thresholds. -/
theorem test_timed_thresholds : look (exec .smTimed (inDoor .preOpeningToParcel 100 800)) (·.door) = some .preOpeningToParcel ∧
    look (exec .smTimed (inDoor .preOpeningToParcel 100 801)) (fun t => (t.door, t.phaseAt, t.motorAt)) =
      some (.openingToParcel, 801, 801) ∧
    look (exec .smTimed (inDoor .locking 100 2100)) (·.door) = some .locking ∧
    look (exec .smTimed (inDoor .locking 100 2101)) (fun t => (t.door, t.phaseAt, t.motorAt, t.conditions)) =
      some (.motorError, 2101, 100, [.motorTimeout .locking]) := by decide

/-- 95_test_vectors.md B3.2: dwell before inactivity, inactivity at its threshold. -/
theorem test_timed_inactivity :
    look (exec .smTimed { inDoor .parcelOpen 10000 10500 with noswSince := some 500 }) (·.door) = some .parcelOpen ∧
    look (exec .smTimed { inDoor .parcelOpen 10000 10500 with noswSince := some 499 }) (fun t => (t.door, t.conditions)) =
      some (.locking, [.failSafeRelock]) ∧
    look (exec .smTimed { inDoor .parcelOpen 9000 10500 with noswSince := some 400 }) (fun t => (t.door, t.conditions)) =
      some (.locking, []) ∧
    look (exec .smTimed { inDoor .locked 0 10100 with noswSince := some 100 }) (·.door) = some .locked ∧
    look (exec .smTimed { inDoor .locked 0 10101 with noswSince := some 100 }) (·.door) = some .locking := by decide

/-- 95_test_vectors.md B3.3: each state looks at its own switch. -/
theorem test_switch_rows : look (exec .smSwitch (switched .openingToParcel false true false 500)) (fun t => (t.door, t.phaseAt, t.motorAt)) =
      some (.parcelOpen, 500, 0) ∧
    look (exec .smSwitch (switched .openingToMail false true false 500)) (·.door) = some .openingToMail ∧
    look (exec .smSwitch (switched .openingToMail false false true 500)) (·.door) = some .mailOpen ∧
    look (exec .smSwitch (switched .locking true true true 500)) (·.door) = some .locked ∧
    look (exec .smSwitch (switched .locked true true true 500)) (·.door) = some .locked := by decide

/-- 95_test_vectors.md B3.3: `NOSW_SINCE`. -/
theorem test_switch_nosw : look (exec .smSwitch (switched .locked false false false 500)) (·.noswSince) = some (some 500) ∧
    look (exec .smSwitch { switched .locked false false false 500 with noswSince := some 200 }) (·.noswSince) = some (some 200) ∧
    look (exec .smSwitch { switched .locked false false true 500 with noswSince := some 200 }) (·.noswSince) = some none := by
  decide

/-- 95_test_vectors.md B3.4. -/
theorem test_cred_answers :
    look (exec .smCred (answered 2#2 "dhl" (receiving 0xB#32 4#8 403 454))) (fun t => (t.door, t.attr, t.diag, t.f.avail)) =
      some (.preOpeningToParcel, "dhl", ⟨0xB#32, 4#8⟩, false) ∧
    look (exec .smCred (answered 1#2 "o" (receiving 0xB#32 4#8 403 454))) (fun t => (t.door, t.attr)) =
      some (.preOpeningToMail, "o") ∧
    look (exec .smCred (answered 0#2 "" (receiving 0xB#32 4#8 403 454))) (fun t => (t.door, t.diag, t.conditions)) =
      some (.locked, ⟨0xB#32, 4#8⟩, [.noMatch 0xB#32 4#8]) := by decide

/-- 95_test_vectors.md B3.4 (silence 50: `auth` is not read) and 30_encoding.md R105 (code 3 at a taken frame). -/
theorem test_cred_reserved : look (exec .smCred (answered 3#2 "" (receiving 0xB#32 4#8 403 453))) (·.w) = some ⟨0xB#32, 4#8, 403⟩ ∧
    why (exec .smCred (answered 3#2 "" (receiving 0xB#32 4#8 403 454))) = some .reservedAuthCode := by decide

/-! ### The tick, the conditioning and the reset -/

/-- 95_test_vectors.md B5.1: timeout beats switch at 2802; the switch at 2801. -/
theorem test_tick_timeout : look (exec (.tick false true false) (inDoor .openingToParcel 801 2802)) (fun t => (t.door, t.pwm, t.phaseAt)) =
      some (.motorError, ⟨255#8, 255#8⟩, 2802) ∧
    look (exec (.tick false true false) (inDoor .openingToParcel 801 2801)) (fun t => (t.door, t.pwm)) =
      some (.parcelOpen, ⟨180#8, 0#8⟩) := by decide

/-- 95_test_vectors.md program P7, the tick at 1901: three transitions in one tick. -/
theorem test_tick_three :
    look (exec (.tick true false true)
        (answered 2#2 "dhl" { inDoor .mailOpen 900 1901 with attr := "owner1", w := ⟨0xD#32, 4#8, 1503⟩ }))
      (fun t => (t.pwm, t.attr, t.notify, t.f)) =
    some (⟨0#8, 255#8⟩, "dhl",
      [(.locking, "owner1"), (.locked, "owner1"), (.preOpeningToParcel, "dhl")], ⟨0xD#32, 4#8, 1503, false⟩) := by decide

/-- 95_test_vectors.md B6.1: one switch with `DEBOUNCE_MS = 20`. -/
theorem test_debounce :
    sampleSwitch 20 true 100 ⟨false, false, 0⟩ = ⟨false, true, 100⟩ ∧
    sampleSwitch 20 true 110 ⟨false, true, 100⟩ = ⟨false, true, 100⟩ ∧
    sampleSwitch 20 false 115 ⟨false, true, 100⟩ = ⟨false, false, 115⟩ ∧
    sampleSwitch 20 true 139 ⟨false, true, 120⟩ = ⟨false, true, 120⟩ ∧
    sampleSwitch 20 true 140 ⟨false, true, 120⟩ = ⟨true, true, 120⟩ ∧
    sampleSwitch 20 false 170 ⟨true, false, 150⟩ = ⟨false, false, 150⟩ := by decide

/-- 45_switch_debounce.md R241 (a): the identity at `DEBOUNCE_MS = 0`, `DB.SAMPLE` alone. -/
theorem test_db_sample : look (exec .dbSample { base with ports := { base.ports with now := 9, sw := ⟨true, false, true⟩ } }) (·.db) =
    some ⟨⟨true, true, 9⟩, ⟨false, false, 0⟩, ⟨true, true, 9⟩⟩ := by decide

/-- 70_reset_and_hazards.md R300, its example, from `MotorError` with a frame being received; and R301: (255, 255) under
every `BRAKE`. -/
theorem test_reset : look (exec .reset { inDoor .motorError 0 5000 with w := ⟨0xB#32, 4#8, 3⟩ })
    (fun t => (t.door, t.w.cnt, t.db.mail, t.attr)) = some (.locked, 0#8, ⟨false, false, 5000⟩, "") ∧
    look (exec .reset { base with ports := { base.ports with cfg := { Config.powerOn with brake := 200 } } })
      (fun t => (t.pwm, t.cfg.brake)) = some (⟨255#8, 255#8⟩, 200) := by decide

/-- 00_scope.md R9, 93_implementation_defined.md V4. -/
theorem test_reset_refuses : why (exec .reset { base with ports := { base.ports with cfg := { Config.powerOn with minBits := 0 } } }) =
    some .illFormedConfig := by decide

/-- The first operation after reset, for a word of each class. -/
theorem test_first_operation : look (step (State.reset.withFetchWord 8 0x01)) (fun t => (t.w.acc, t.w.cnt)) = some (1#32, 1#8) ∧
    look (step (State.reset.withFetchWord 8 0x11)) (·.door) = some .preOpeningToMail ∧
    look (step (State.reset.withFetchWord 8 0x20)) (·.noswSince) = some (some 0) ∧
    look (step (State.reset.withFetchWord 8 0x8C)) (·.notify) = some [(.locked, "")] ∧
    look (step (State.reset.withFetchWord 8 0xF0)) (·.draws) = some 2 := by decide

/-- 93_implementation_defined.md V3, V6, V8. -/
theorem test_refusals : why (step { base with inbox := [event 0x02#8 .irq false 0] }) = some (.reservedWord 0x02#8) ∧
    why (step { base with inbox := [event 0x01#8 .loop false 0] }) = some .wrongContext ∧
    why (step { atTime 9 base with inbox := [event 0x01#8 .irq false 8] }) = some .timeWentBack := by decide

/-! ### Witnesses: a concrete state and operands for the hypotheses of each statement, at the boundary of each clause -/

/-- `s` with `POLL_ATOMIC = false`. -/
def split (s : State) : State := withPollAtomic false s

/-- `base` with a configuration on its port that has formatter `f`. -/
def offering (f : Formatter) : State :=
  { base with ports := { base.ports with cfg := { Config.powerOn with fmt := f } } }

/-- A split poll of `k` that took `(acc, cnt, 3)` at 100, with an edge presented inside it and a request after it. -/
def lostEdge (k : PollCaller) (cnt : Count) : State :=
  { split (receiving 0xF#32 cnt 3 100) with
    window := some ⟨⟨0xF#32, cnt, 3, true⟩, k, 100, ⟨2#2, "dhl"⟩⟩
    inbox := [event 0x01#8 .irq true 100, event 0x11#8 .host false 101] }

/-- `base` with one event presented. -/
def offered (v : EventWord) (a : Agent) (now : Nat) (s : State) : State := { s with inbox := [event v a false now] }

theorem witness_EdgeZeroShiftsInZero : (receiving 0#32 31#8 0 0).w.cnt.toNat < 32 ∧
    32 ≤ (receiving 0#32 32#8 0 0).w.cnt.toNat := by decide

theorem witness_EdgeOneShiftsInOne : look (exec .edge1 (receiving 0#32 31#8 0 5)) (fun t => (t.w, t.noted)) =
      some (⟨1#32, 32#8, 5⟩, []) ∧
    look (exec .edge1 (receiving 0#32 32#8 0 5)) (fun t => (t.w, t.noted)) =
      some (⟨0#32, 33#8, 5⟩, [.overlong 33#8]) := by
  decide

theorem witness_PollFinalizesAfterQuiet : (receiving 1#32 4#8 3 54).cfg.pollAtomic = true ∧
    look (exec .wPoll (receiving 1#32 3#8 3 54)) (·.conditions) = some [.shortFrame 3#8] ∧
    look (exec .wPoll (receiving 1#32 4#8 3 54)) (·.f.avail) = some true := by decide

/-- 95_test_vectors.md B5.4, the first half. -/
theorem witness_SplitPollTakesSnapshot : (split (receiving 0xF#32 4#8 3 100)).cfg.pollAtomic = false ∧
    (snapshot 100 (split (receiving 0xF#32 4#8 3 100))).go = true ∧
    (snapshot 53 (split (receiving 0xF#32 4#8 3 53))).go = false := by decide

/-- 95_test_vectors.md B5.4: the fifth edge is in neither frame. Both callers, both sides of `MIN_BITS`; after the edge the
poll is completed before the request, with the answer read at its start. -/
theorem witness_EdgeInsideSplitPollIsLost :
    (∀ k : PollCaller, ∀ c ∈ [3#8, 4#8], ∃ p e r, (lostEdge k c).window = some p ∧ p.caller = k ∧ p.snap.go = true ∧
      p.snap.cnt = c ∧ p.auth.code ≠ 3#2 ∧ (lostEdge k c).inbox = [e, r] ∧ ¬ InsidePoll r ∧ e.duringPoll = true ∧
      e.word = 0x01#8 ∧ e.source = .irq ∧ (lostEdge k c).ports.now ≤ e.ports.now ∧ (lostEdge k c).cfg.minBits = 4) ∧
    look (step (lostEdge .cred 4#8)) (·.w) = some ⟨0x1F#32, 5#8, 100⟩ ∧
    (look (step (lostEdge .cred 4#8)) step).bind (look · (fun t => (t.w, t.diag, t.door, t.attr, t.inbox.length))) =
      some (⟨0#32, 0#8, 100⟩, ⟨0xF#32, 4#8⟩, .preOpeningToParcel, "dhl", 1) := by
  refine ⟨fun k c _ => ⟨_, _, _, rfl, rfl, rfl, rfl, ?_, rfl, fun h => absurd h.1 (by decide), rfl, rfl, rfl,
    Nat.le_refl _, rfl⟩, by decide, by decide⟩
  show (2#2 : BitVec 2) ≠ 3#2
  decide

/-- With nothing presented, and with an edge presented that does not fall inside the poll. -/
theorem witness_SplitPollWithoutEdgeIsAtomic : (split base).cfg.pollAtomic = false ∧ (split base).window = none ∧
    (split base).inbox = [] ∧ (split base).door = .locked ∧ (split base).ports.auth.code ≠ 3#2 ∧
    ∀ e ∈ (offered 0x01#8 .irq 9 (split base)).inbox.head?, ¬ InsidePoll e := by
  refine ⟨rfl, rfl, rfl, rfl, by decide, fun e he h => ?_⟩
  cases he
  exact absurd h.1 (by decide)

theorem witness_TakeReturnsFrameOnce : ({ base with f := ⟨1#32, 4#8, 9, true⟩ } : State).f.avail = true ∧
    base.f.avail = false := by decide

/-- 95_test_vectors.md B1.3: `1011` is a frame, `101` is not; the 33rd bit is not in the code. -/
theorem witness_FrameHoldsFirstBits : base.w.cnt = 0#8 ∧ base.w.acc = 0#32 ∧ base.cfg.pollAtomic = true ∧
    base.cfg.minBits ≤ 255 ∧ 54 - 3 > base.cfg.quietMs ∧
    base.cfg.minBits ≤ [(true, 0), (false, 1), (true, 2)].length + 1 ∧
    [(true, 0), (false, 1)].length + 1 < base.cfg.minBits ∧
    frameValue [(true, 0), (false, 1), (true, 2), (true, 3)] = 0xB ∧
    frameValue (List.replicate 33 (true, 0)) = 0xFFFFFFFF := by decide

theorem witness_TickKeepsArrivingFrame : (receiving 5#32 3#8 0 50).ports.now - (receiving 5#32 3#8 0 50).w.last ≤ base.cfg.quietMs ∧
    (receiving 5#32 3#8 0 50).ports.auth.code ≠ 3#2 ∧ (receiving 5#32 3#8 0 50).cfg.pollAtomic = true := by decide

theorem witness_TickLeavesNoPendingFrame : (receiving 0xB#32 4#8 403 454).cfg.pollAtomic = true ∧
    look (exec (.tick true false false) (receiving 0xB#32 4#8 403 454)) (fun t => (t.door, t.f.avail)) = some (.locked, false) ∧
    look (exec (.tick true false false) (inDoor .mailOpen 0 9)) (fun t => (t.door, t.f.avail)) = some (.mailOpen, false) := by
  decide

theorem witness_RampFollowsEnvelope : base.cfg.breakawayDuty ≤ 255 ∧ 199 < base.cfg.fullPowerMs ∧ base.cfg.fullPowerMs ≤ 200 ∧
    499 < base.cfg.fullPowerMs + base.cfg.rampMs ∧ (180 : Nat) ≤ base.cfg.breakawayDuty ∧
    base.cfg.fullPowerMs + base.cfg.rampMs ≤ 500 ∧
    ({ base.cfg with breakawayDuty := 100 } : Cfg).breakawayDuty < 200 := by decide

theorem witness_RampDecaysMonotonically : 180 < Config.powerOn.breakawayDuty ∧ Config.powerOn.fullPowerMs ≤ 200 ∧
    499 < Config.powerOn.fullPowerMs + Config.powerOn.rampMs ∧
    ({ Config.powerOn with fullPowerMs := 0, rampMs := 0 } : Cfg).fullPowerMs +
      ({ Config.powerOn with fullPowerMs := 0, rampMs := 0 } : Cfg).rampMs = 0 := by decide

theorem witness_CommandOfEachState : base.cfg.wf = true ∧
    ({ base with ports := { base.ports with stateCode := 8#4 } } : State).ports.stateCode = doorCode .motorError ∧
    9 ≤ ({ base with ports := { base.ports with stateCode := 9#4 } } : State).ports.stateCode.toNat := by decide

theorem witness_MotorWriteFollowsState : (inDoor .openingToMail 0 350).cfg.wf = true ∧
    look (exec .mWrite (inDoor .openingToMail 0 350)) (·.pwm) = some ⟨218#8, 0#8⟩ := by decide

theorem witness_MotorNeverDrivesBothChannels : (inDoor .locking 0 9).cfg.wf = true ∧ (inDoor .locking 0 9).cfg.brake = 255 ∧
    look (exec .mWrite (inDoor .mailOpen 0 9)) (·.pwm) = some ⟨255#8, 255#8⟩ := by decide

theorem witness_NoteWindowIsExact : (playing 0 0 250 300).player.playing = true ∧
    (playing 0 0 250 300).ports.now - (playing 0 0 250 300).player.noteAt ≤ 6 * 250 / 5 ∧
    (playing 0 0 250 301).ports.now - (playing 0 0 250 301).player.noteAt > 6 * 250 / 5 := by decide

/-- 95_test_vectors.md B4.1: the two windows of the tune. -/
theorem witness_MelodyPlaysEveryNote : (playing 0 0 250 0).player.playing = true ∧ (playing 0 0 250 0).player.index = 0 ∧
    [301, 452].length ≤ (playing 0 0 250 0).player.mel.notes.length ∧ (playing 0 0 250 0).player.mel.notes ≠ [] ∧
    eachPastWindow [301, 452] (playing 0 0 250 0) := by
  refine ⟨rfl, rfl, by decide, by decide, by decide, fun u h => ?_⟩
  injection h with h
  subst h
  exact ⟨by decide, fun _ _ => trivial⟩

theorem witness_EnterPerformsTransition :
    ({ base with ports := { base.ports with stateCode := 8#4 } } : State).ports.stateCode = doorCode .motorError ∧
    9 ≤ ({ base with ports := { base.ports with stateCode := 9#4 } } : State).ports.stateCode.toNat := by decide

theorem witness_OpenParcelOnlyWhenLocked : base.door = .locked ∧ (inDoor .motorError 0 0).door ≠ .locked := by decide

theorem witness_OpenMailOnlyWhenLocked : base.door = .locked ∧ (inDoor .mailOpen 0 0).door ≠ .locked := by decide

theorem witness_CloseOnlyWhenOpen : (inDoor .parcelOpen 0 0).door = .parcelOpen ∧ (inDoor .mailOpen 0 0).door = .mailOpen ∧
    (inDoor .locking 0 0).door ≠ .parcelOpen ∧ (inDoor .locking 0 0).door ≠ .mailOpen := by decide

/-- 95_test_vectors.md A3: `"x"` stays. -/
theorem witness_SecondOpenRequestIgnored : base.door = .locked ∧
    look (exec .reqOpenParcel { base with ports := { base.ports with label := "x" } }) (fun t => (t.door, t.attr)) =
      some (.preOpeningToParcel, "x") := by decide

/-- 95_test_vectors.md B3.2: both sides of each threshold. -/
theorem witness_TimedTransitionsOfEachState :
    801 - (inDoor .preOpeningToMail 100 801).phaseAt > base.cfg.openingDelayMs ∧
    800 - (inDoor .preOpeningToMail 100 800).phaseAt ≤ base.cfg.openingDelayMs ∧
    2101 - (inDoor .openingToMail 100 2101).motorAt > base.cfg.motorTimeoutMs ∧
    2100 - (inDoor .openingToMail 100 2100).motorAt ≤ base.cfg.motorTimeoutMs ∧
    1101 - (inDoor .mailOpen 100 1101).phaseAt > base.cfg.openDwellMs ∧
    1100 - (inDoor .mailOpen 100 1100).phaseAt ≤ base.cfg.openDwellMs ∧
    idleTooLong 10500 { inDoor .parcelOpen 10000 10500 with noswSince := some 499 } ∧
    ¬ idleTooLong 10500 { inDoor .parcelOpen 10000 10500 with noswSince := some 500 } := by
  refine ⟨by decide, by decide, by decide, by decide, by decide, by decide, ⟨499, rfl, by decide⟩, ?_⟩
  rintro ⟨t, ht, h⟩
  cases ht
  exact absurd h (by decide)

theorem witness_SwitchTransitionsOfEachState : (switched .openingToParcel false true false 5).db.parcel.out = true ∧
    (switched .openingToMail false false true 5).db.mail.out = true ∧ (switched .locking true false false 5).db.closed.out = true ∧
    (switched .mailOpen true false false 5).door ≠ .locking := by decide

theorem witness_NoSwitchSinceFirstQuietSample : base.noswSince = none ∧
    quietSince [(⟨false, false, false⟩, 1), (⟨true, false, false⟩, 2), (⟨false, false, false⟩, 3), (⟨false, false, false⟩, 4)] =
      some 3 := by decide

theorem witness_CredentialHandledOnlyWhenLocked : (inDoor .locking 0 0).door ≠ .locked ∧ (split base).door = .locked ∧
    (split base).cfg.pollAtomic = false ∧ base.door = .locked ∧ base.cfg.pollAtomic = true ∧
    (polled 454 (receiving 0xB#32 4#8 403 454)).f.avail = true ∧ (polled 453 (receiving 0xB#32 4#8 403 453)).f.avail = false ∧
    (answered 3#2 "" (receiving 0xB#32 4#8 403 454)).ports.auth.code = 3#2 := by decide

theorem witness_MotorErrorAbsorbsTickAndRequests : (inDoor .motorError 0 9).door = .motorError ∧
    (inDoor .motorError 0 9).cfg.wf = true := by decide

theorem witness_MotorErrorOnlyLeftByReset : (offered 0x27#8 .loop 9 (inDoor .motorError 0 9)).door = .motorError ∧
    (∃ t, step (offered 0x27#8 .loop 9 (inDoor .motorError 0 9)) = .next t) ∧
    ∀ e, ¬ Performs (offered 0x27#8 .loop 9 (inDoor .motorError 0 9)) e .reset ∧
      ¬ Performs (offered 0x27#8 .loop 9 (inDoor .motorError 0 9)) e .smEnter := by
  refine ⟨rfl, ⟨_, rfl⟩, fun e => ⟨?_, ?_⟩⟩ <;>
  · rintro ⟨rest, h, hd⟩
    cases h
    exact absurd hd (by decide)

theorem witness_StepKeepsNotifyTrace : NotifySound (offered 0x10#8 .host 9 base) ∧
    (∃ t, step (offered 0x10#8 .host 9 base) = .next t) ∧ ∀ e, ¬ Performs (offered 0x10#8 .host 9 base) e .smEnter := by
  refine ⟨⟨by simp [offered, base], rfl⟩, ⟨_, rfl⟩, fun e => ?_⟩
  rintro ⟨rest, h, hd⟩
  cases h
  exact absurd hd (by decide)

theorem witness_TickCompletes : base.ports.auth.code ≠ 3#2 ∧
    look (exec (.tick true false false) base) (·.door) = some .locked := by decide

theorem witness_TickNotifiesAtMostThreeTimes :
    look (exec (.tick true false false) { inDoor .locked 0 10001 with noswSince := some 0 }) (·.notify) =
      some [(.locking, "a"), (.locked, "a")] := by decide

theorem witness_MotorTimeoutBeatsSwitch : (inDoor .locking 801 2802).door = .locking ∧
    (inDoor .locking 801 2802).ports.now - (inDoor .locking 801 2802).motorAt > base.cfg.motorTimeoutMs ∧
    (inDoor .locking 801 2802).cfg.wf = true := by decide

theorem witness_ZeroDebounceIsIdentity : base.cfg.debounceMs = 0 ∧
    look (exec (.tick true false true) base) (fun t => (t.db.closed.out, t.db.parcel.out, t.db.mail.out)) =
      some (true, false, true) ∧
    look (exec .dbSample { base with ports := { base.ports with sw := ⟨false, true, true⟩ } }) (·.db.mail.out) = some true := by
  decide

/-- 95_test_vectors.md B6.1: 20 ms pass, 19 ms do not. -/
theorem witness_StableLevelPassesShortPulseDoesNot :
    ([120, 139, 140] : List Nat).IsChain (· ≤ ·) ∧ base.db.closed.since ≤ 120 ∧ base.db.parcel.since ≤ 120 ∧
    base.db.mail.since ≤ 120 ∧ ({ base.cfg with debounceMs := 20 } : Cfg).debounceMs ≤ [139, 140].getLastD 120 - 120 ∧
    [139].getLastD 120 - 120 < ({ base.cfg with debounceMs := 20 } : Cfg).debounceMs ∧
    base.db.closed.raw = base.db.closed.out := by decide

theorem witness_ResetLoadsResetValues : base.ports.cfg.wf = true ∧
    look (exec .reset base) (fun t => (t.door, t.pwm.a)) = some (.locked, 255#8) := by decide

theorem witness_ResetForgetsEverything : base.ports = (inDoor .motorError 0 0).ports ∧ base.inbox = (inDoor .motorError 0 0).inbox ∧
    base.draws = (inDoor .motorError 0 0).draws ∧ base ≠ inDoor .motorError 0 0 :=
  ⟨rfl, rfl, rfl, fun h => absurd (congrArg State.door h) (by decide)⟩

theorem witness_ResetRefusesIllFormedConfig :
    why (exec .reset { base with ports := { base.ports with cfg := { Config.powerOn with dutyClose := 255 } } }) =
      some .illFormedConfig ∧
    why (exec .reset { base with ports := { base.ports with cfg := { Config.powerOn with breakawayDuty := 256 } } }) =
      some .illFormedConfig := by decide

theorem witness_StateResetIsAReset : ({ base with draws := 0 } : State).ports = Ports.powerOn ∧
    ({ base with draws := 0 } : State).inbox = [] ∧ ({ base with draws := 0 } : State).draws = 0 := ⟨rfl, rfl, rfl⟩

theorem witness_ConfigFixedUntilReset : look (step (offered 0x24#8 .loop 9 base)) (·.cfg) = some base.cfg ∧
    look (step (offered 0xF0#8 .environment 9 (split base))) (·.cfg.pollAtomic) = some true := ⟨rfl, rfl⟩

/-- A formatter latched from the port shows in the string, at a listed and at an unlisted argument. -/
theorem witness_EveryFormatterCanBeLatched : base.ports.cfg.wf = true ∧
    look (exec .reset (offering ⟨[((0#32, 0#8), "none")], "card"⟩)) diagString = some "none" ∧
    look (exec .reset (offering ⟨[((0#32, 0#8), "none")], "card"⟩))
      (fun t => diagString { t with diag := ⟨0xB#32, 4#8⟩ }) = some "card" := by decide

theorem witness_DecodeAndEncodeAgree : (Instr.tick true false true).wf = true ∧ encode (.tick true false true) = [0x25#8] := by decide

theorem witness_ReservedWordsRefused : (offered 0x86#8 .irq 0 base).window = none ∧
    (offered 0x86#8 .irq 0 base).inbox = [event 0x86#8 .irq false 0] ∧ (event 0x86#8 .irq false 0).word = 0x86#8 :=
  ⟨rfl, rfl, rfl⟩

theorem witness_StepRunsDecodedOperation : (offered 0x10#8 .host 9 base).window = none ∧
    decodeWord (event 0x10#8 .host false 9).word = .ok .reqOpenParcel ∧ Instr.reqOpenParcel.wf = true ∧
    ownerOf .reqOpenParcel = some (event 0x10#8 .host false 9).source ∧
    (offered 0x10#8 .host 9 base).ports.now ≤ (event 0x10#8 .host false 9).ports.now := by decide

theorem witness_TimeRunningBackwardsRefused : (offered 0x01#8 .irq 8 (atTime 9 base)).window = none ∧
    decodeWord (event 0x01#8 .irq false 8).word = .ok .edge1 ∧ ownerOf .edge1 = some (event 0x01#8 .irq false 8).source ∧
    (event 0x01#8 .irq false 8).ports.now < (atTime 9 base).ports.now := by decide

theorem witness_WrongContextRefused : why (step (offered 0x00#8 .loop 9 base)) = some .wrongContext ∧
    why (step (offered 0x20#8 .irq 9 base)) = some .wrongContext ∧ why (step (offered 0x12#8 .loop 9 base)) = some .wrongContext ∧
    why (step (offered 0xF0#8 .host 9 base)) = some .wrongContext ∧ why (step (offered 0x88#8 .irq 9 base)) = some .wrongContext := by
  decide

theorem witness_EveryOperationCompletes : OperandsDefined .smEnter { base.ports with stateCode := 8#4 } ∧
    OperandsDefined (.tick true false false) { base.ports with auth := ⟨2#2, "dhl"⟩ } ∧ OperandsDefined .reset base.ports := by
  refine ⟨⟨fun _ => by decide, fun h => (by rcases h with h | ⟨_, _, _, h⟩ <;> cases h), fun h => (by cases h)⟩,
    ⟨fun h => (by rcases h with h | h <;> cases h), fun _ => by decide, fun h => (by cases h)⟩,
    ⟨fun h => (by rcases h with h | h <;> cases h), fun _ => by decide, fun _ => by decide⟩⟩

theorem witness_PresentedOperationsNeverStop : Presentable (atTime 5 base).ports.now [event 0x01#8 .irq false 5, event 0x11#8 .host false 9] ∧
    ∀ p, (atTime 5 base).window = some p → p.caller = .cred → p.auth.code ≠ 3#2 := by
  refine ⟨⟨by decide, ⟨.edge1, rfl, .inr rfl, ?_⟩, by decide, ⟨.reqOpenMail, rfl, .inr rfl, ?_⟩, trivial⟩, fun p h => by cases h⟩ <;>
  exact ⟨fun h => (by rcases h with h | h <;> cases h), fun h => (by rcases h with h | ⟨_, _, _, h⟩ <;> cases h), fun h => (by cases h)⟩

theorem witness_AgentsWriteOnlyTheirOwn :
    agenda (offered 0x01#8 .irq 9 base) = .perform (event 0x01#8 .irq false 9) [] ∧
    look (step (offered 0x01#8 .irq 9 base)) (·.w) = some ⟨1#32, 1#8, 9⟩ ∧
    agenda (offered 0x11#8 .host 9 base) = .perform (event 0x11#8 .host false 9) [] ∧
    look (step (offered 0x11#8 .host 9 base)) (·.door) = some .preOpeningToMail :=
  ⟨rfl, rfl, rfl, rfl⟩

theorem witness_ClockNeverDecreases : look (step (offered 0x24#8 .loop 9 base)) (·.ports.now) = some 9 ∧
    look (step (lostEdge .alone 4#8)) (·.ports.now) = some 100 := by decide

theorem witness_StepKeepsRegisterInvariants : RegistersSound (offered 0x24#8 .loop 301 (playing 0 0 250 0)) ∧
    ∃ t, step (offered 0x24#8 .loop 301 (playing 0 0 250 0)) = .next t :=
  ⟨⟨⟨fun _ => rfl, fun h => absurd h (by decide)⟩, fun h => absurd h (by decide), .inl (by decide), fun _ => ⟨⟨440, 4⟩, rfl, rfl⟩,
    by decide, by decide⟩, _, rfl⟩

theorem witness_NothingPresentedNothingChanges : base.window = none ∧ base.inbox = [] := by decide

theorem witness_DefaultLedsOfEachState : base.cfg.ledMap = Config.defaultLedMap ∧ base.door = .locked ∧
    (inDoor .parcelOpen 0 0).door = .parcelOpen ∧ (inDoor .motorError 0 0).door = .motorError := by decide

end Sys2Proof.Tests
end

section
/-! PROOFS. `SM.TIMED`, `S.TICK` and the refusal of the wrong context: first the rules about the model's operations, in
the words of the statements, then the three obligations. -/

namespace Sys2Proof.Machine

open Sys2Proof.Claims

/-! ### The model's operations in the words of the statements -/

theorem exec_smTimed (s : State) : exec .smTimed s = .next (timed s.ports.now s) := rfl

theorem exec_sTick (s : State) : exec .sTick s = .next (tickMelody s.ports.now s) := rfl

theorem enter_eq_entered (g : DoorState) (now : Nat) (s : State) : enter g now s = entered g now s := by
  cases g <;> simp [enter, entered, isMotorDriving]

theorem raise_eq_withRaised (c : Condition) (s : State) : raise c s = withRaised [c] s := rfl

theorem inactive_iff (s : State) (now : Nat) : inactive s now = true ↔ idleTooLong now s := by
  unfold inactive idleTooLong
  cases s.noswSince with
  | none => simp
  | some t => simp

theorem noteWindowOver_iff (p : Player) (now : Nat) :
    noteWindowOver p now = true ↔ 5 * (now - p.noteAt) > 6 * p.dur := by
  simp [noteWindowOver, Config.gapDen, Config.gapNum]

/-- A micro-operation that no agent owns is a step of `TICK` under its own event word (30_encoding.md R104). -/
theorem isStepOfTick_encodeWord (i : Instr) (hword : Laws.EncodesToItsRow.Statement i) (howner : ownerOf i = none) :
    IsStepOfTick (encodeWord i) i :=
  ⟨hword.2, howner, fun _ _ _ => rfl⟩

/-! ### `SM.TIMED`: one equation for each kind of door state -/

theorem timed_preOpening (g : DoorState) (now : Nat) (s : State)
    (h : s.door = .preOpeningToParcel ∧ g = .openingToParcel ∨ s.door = .preOpeningToMail ∧ g = .openingToMail) :
    timed now s = if now - s.phaseAt > s.cfg.openingDelayMs then entered g now s else s := by
  rcases h with ⟨hd, rfl⟩ | ⟨hd, rfl⟩ <;> simp [timed, hd, openingDelayOver, enter_eq_entered]

theorem timed_motorDriving (now : Nat) (s : State)
    (h : s.door = .openingToParcel ∨ s.door = .openingToMail ∨ s.door = .locking) :
    timed now s =
      if now - s.motorAt > s.cfg.motorTimeoutMs then entered .motorError now (withRaised [.motorTimeout s.door] s)
      else s := by
  rcases h with h | h | h <;> simp [timed, h, motorTimeoutOver, enter_eq_entered, raise_eq_withRaised]

theorem timed_open (now : Nat) (s : State) (h : s.door = .parcelOpen ∨ s.door = .mailOpen) :
    timed now s =
      if now - s.phaseAt > s.cfg.openDwellMs then entered .locking now s
      else if inactive s now then entered .locking now (withRaised [.failSafeRelock] s) else s := by
  rcases h with h | h <;> simp [timed, h, dwellOver, enter_eq_entered, raise_eq_withRaised]

theorem timed_locked (now : Nat) (s : State) (h : s.door = .locked) :
    timed now s = if inactive s now then entered .locking now (withRaised [.failSafeRelock] s) else s := by
  simp [timed, h, enter_eq_entered, raise_eq_withRaised]

theorem timed_motorError (now : Nat) (s : State) (h : s.door = .motorError) : timed now s = s := by
  simp [timed, h]

/-- Settles O25: each kind of door state has its equation above, and each threshold is one side of its `if`. -/
theorem timedTransitionsOfEachState : Obligations.TimedTransitionsOfEachState := by
  refine ⟨isStepOfTick_encodeWord .smTimed Laws.EncodesToItsRow.smTimed rfl, fun s => ?_⟩
  simp only [exec_smTimed, Host.Outcome.next.injEq, ← inactive_iff]
  refine ⟨fun hd => ?_, fun hd => ?_, fun hd => ?_, fun hd => ?_, fun hd => ?_, timed_motorError _ s⟩
  · rw [timed_preOpening .openingToParcel _ s (.inl ⟨hd, rfl⟩)]
    exact ⟨fun hlate => if_pos hlate, fun hearly => if_neg hearly.not_gt⟩
  · rw [timed_preOpening .openingToMail _ s (.inr ⟨hd, rfl⟩)]
    exact ⟨fun hlate => if_pos hlate, fun hearly => if_neg hearly.not_gt⟩
  · rw [timed_motorDriving _ s hd]
    exact ⟨fun hlate => if_pos hlate, fun hearly => if_neg hearly.not_gt⟩
  · rw [timed_open _ s hd]
    exact ⟨fun hlate => if_pos hlate, fun hearly hidle => (if_neg hearly.not_gt).trans (if_pos hidle),
      fun hearly hidle => (if_neg hearly.not_gt).trans (if_neg hidle)⟩
  · rw [timed_locked _ s hd]
    exact ⟨fun hidle => if_pos hidle, fun hidle => if_neg hidle⟩

/-! ### `S.TICK` -/

/-- The model's melody step is the one of 43_melody_sequencer.md R204, with the window of R205 written out. -/
theorem tickPlayer_eq_tickedPlayer (now : Nat) (p : Player) : tickPlayer now p = tickedPlayer now p := by
  rcases tickPlayer_cases now p with ⟨hstay, heq⟩ | ⟨hplays, hover, n, hnote, heq⟩ | ⟨hplays, hover, hend, heq⟩
  · have hwithin : ¬ (p.playing = true ∧ 5 * (now - p.noteAt) > 6 * p.dur) := by
      rw [← noteWindowOver_iff, ← Bool.and_eq_true, hstay]
      exact Bool.false_ne_true
    rw [heq, tickedPlayer, if_neg hwithin]
  · have hnext : p.mel.notes[p.index + 1]? = some n := hnote
    rw [heq, tickedPlayer, if_pos ⟨hplays, (noteWindowOver_iff p now).mp hover⟩, hnext]
    rfl
  · have hpast : p.mel.notes[p.index + 1]? = none := hend
    rw [heq, tickedPlayer, if_pos ⟨hplays, (noteWindowOver_iff p now).mp hover⟩, hpast]

/-- Settles O17: `S.TICK` writes the melody registers only, and writes what R204 says. -/
theorem melodyTickAdvancesOneNote : Obligations.MelodyTickAdvancesOneNote := by
  refine ⟨isStepOfTick_encodeWord .sTick Laws.EncodesToItsRow.sTick rfl, fun s => ?_⟩
  rw [exec_sTick, tickMelody, tickPlayer_eq_tickedPlayer]

/-! ### Refusal of the wrong context -/

/-- The operations of each agent (60_exceptions.md R275). -/
theorem ownerOf_eq_some (i : Instr) (a : Agent) (h : ownerOf i = some a) :
    ((i = .edge0 ∨ i = .edge1) ∧ a = .irq) ∨ ((∃ c p m, i = .tick c p m) ∧ a = .loop) ∨
      ((i = .reqOpenParcel ∨ i = .reqOpenMail ∨ i = .reqClose) ∧ a = .host) ∨ (i = .reset ∧ a = .environment) := by
  cases i <;> simp_all [ownerOf]

theorem mayPerform_eq_false (a : Agent) (i : Instr) (ha : a ≠ .harness) (ho : ownerOf i ≠ some a) :
    mayPerform a i = false := by
  simp [mayPerform, ha, ho]

theorem acceptEvent_wrongContext (e : Event) (s : State) (i : Instr) (hd : decodeWord e.word = .ok i)
    (hm : mayPerform e.source i = false) : acceptEvent e s = .error .wrongContext := by
  simp [acceptEvent, hd, hm]

theorem agenda_perform (s : State) (e : Event) (rest : List Event) (hw : s.window = none) (hi : s.inbox = e :: rest) :
    agenda s = .perform e rest := by
  simp [agenda, hw, hi]

theorem step_refused (s : State) (e : Event) (rest : List Event) (r : Refusal) (ha : agenda s = .perform e rest)
    (hr : acceptEvent e s = .error r) : step s = .refused r := by
  simp [step, ha, hr]

/-- Settles O52: the agent would have to own the operation, and the hypotheses exclude each of the four owners. -/
theorem wrongContextRefused : Obligations.WrongContextRefused := by
  intro s e rest i hw hi hd hharness hedge htick hrequest hreset
  have hforeign : ownerOf i ≠ some e.source := fun howner => by
    rcases ownerOf_eq_some i e.source howner with
      ⟨hop, hsrc⟩ | ⟨⟨c, p, m, hop⟩, hsrc⟩ | ⟨hop, hsrc⟩ | ⟨hop, hsrc⟩
    · exact hedge hop hsrc
    · exact htick c p m hop hsrc
    · exact hrequest hop hsrc
    · exact hreset hop hsrc
  have hrefuse := acceptEvent_wrongContext e s i hd (mayPerform_eq_false e.source i hharness hforeign)
  exact step_refused s e rest .wrongContext (agenda_perform s e rest hw hi) hrefuse

end Sys2Proof.Machine
end

section
/-! PROOFS. The open requests: first the melody registers and `open_request` in the words of the statements, then the
two obligations as one argument over the kind (42_door_state_machine.md R161 to R163). -/

namespace Sys2Proof.Machine

open Sys2Proof.Claims

/-! ### Starting a melody in the words of the statements -/

/-- The model keys the melody table by `List.lookup`, the statements by `List.find?` (43_melody_sequencer.md R200). -/
theorem lookupMelody_eq_chosenMelody (c : Cfg) (sel : Selection) : lookupMelody c sel = chosenMelody c sel := by
  unfold lookupMelody chosenMelody
  induction c.melodyTable with
  | nil => rfl
  | cons e rest ih =>
    obtain ⟨name, melody⟩ := e
    by_cases hname : name = sel
    · simp [hname]
    · have hmiss : (sel == name) = false := beq_false_of_ne (Ne.symm hname)
      simpa [List.lookup_cons, hname, hmiss] using ih

/-- The model's `S.START` is the one of 43_melody_sequencer.md R202, split on whether the melody has a note. -/
theorem startPlayer_eq_startedPlayer (m : Melody) (now : Nat) (p : Player) :
    startPlayer m now p = startedPlayer m now p := by
  rcases m with ⟨_ | ⟨n, rest⟩, whole⟩ <;> rfl

/-! ### `open_request` -/

theorem exec_reqOpenParcel (s : State) :
    exec .reqOpenParcel s = .next (openRequest .parcel s.ports.label s.ports.now s) := rfl

theorem exec_reqOpenMail (s : State) :
    exec .reqOpenMail s = .next (openRequest .mail s.ports.label s.ports.now s) := rfl

/-- A pre-opening state drives no motor, so `MOTOR_AT` stays (42_door_state_machine.md R160, R161). -/
theorem openRequest_eq_opened (k : Kind) (l : Label) (now : Nat) (s : State) (h : s.door = .locked) :
    openRequest k l now s = opened (preOpening k) l now s := by
  rw [openRequest_locked k l now s h, lookupMelody_eq_chosenMelody, startPlayer_eq_startedPlayer]
  cases k <;> rfl

theorem openRequest_eq_withRaised (k : Kind) (l : Label) (now : Nat) (s : State) (h : s.door ≠ .locked) :
    openRequest k l now s = withRaised [.ignoredRequest] s :=
  (openRequest_ignored k l now s h).trans (raise_eq_withRaised _ s)

/-- Settles O21: the word is its row's, and `open_request` is accepted in `Locked` and ignored elsewhere. -/
theorem openParcelOnlyWhenLocked : Obligations.OpenParcelOnlyWhenLocked := by
  refine ⟨Laws.EncodesToItsRow.reqOpenParcel.2, rfl, fun s => ⟨fun hlocked => ?_, fun helsewhere => ?_⟩⟩
  · rw [exec_reqOpenParcel, openRequest_eq_opened .parcel _ _ s hlocked, preOpening]
  · rw [exec_reqOpenParcel, openRequest_eq_withRaised .parcel _ _ s helsewhere]

/-- Settles O22: the same argument for the other kind. -/
theorem openMailOnlyWhenLocked : Obligations.OpenMailOnlyWhenLocked := by
  refine ⟨Laws.EncodesToItsRow.reqOpenMail.2, rfl, fun s => ⟨fun hlocked => ?_, fun helsewhere => ?_⟩⟩
  · rw [exec_reqOpenMail, openRequest_eq_opened .mail _ _ s hlocked, preOpening]
  · rw [exec_reqOpenMail, openRequest_eq_withRaised .mail _ _ s helsewhere]

end Sys2Proof.Machine
end

section
/-! PROOFS. The window of a note: the bound of `S.TICK` as a division, what a tick does on either side of it, then the
obligation (43_melody_sequencer.md R205). -/

namespace Sys2Proof.Machine

/-- The cross-multiplied test of the model is the bound on the elapsed time (43_melody_sequencer.md R205). -/
theorem noteWindowOver_iff_elapsed_gt (p : Player) (now : Nat) :
    noteWindowOver p now = true ↔ now - p.noteAt > 6 * p.dur / 5 := by
  rw [noteWindowOver_iff, gt_iff_lt, gt_iff_lt, Nat.div_lt_iff_lt_mul (by decide), Nat.mul_comm 5]

theorem tickPlayer_of_not_noteWindowOver (p : Player) (now : Nat) (hwithin : noteWindowOver p now ≠ true) :
    tickPlayer now p = p := by
  rcases tickPlayer_cases now p with ⟨-, heq⟩ | ⟨-, hover, -⟩ | ⟨-, hover, -⟩
  · exact heq
  · exact absurd hover hwithin
  · exact absurd hover hwithin

/-- The cursor advances past the last entry too (43_melody_sequencer.md R204). -/
theorem tickPlayer_index_of_noteWindowOver (p : Player) (now : Nat) (hplays : p.playing = true)
    (hover : noteWindowOver p now = true) : (tickPlayer now p).index = p.index + 1 := by
  rcases tickPlayer_cases now p with ⟨hstay, -⟩ | ⟨-, -, n, -, heq⟩ | ⟨-, -, -, heq⟩
  · simp [hplays, hover] at hstay
  · rw [heq]
  · rw [heq]

theorem tickPlayer_index_eq_succ_iff (p : Player) (now : Nat) (hplays : p.playing = true) :
    (tickPlayer now p).index = p.index + 1 ↔ noteWindowOver p now = true := by
  refine ⟨fun hadvance => ?_, tickPlayer_index_of_noteWindowOver p now hplays⟩
  by_contra hwithin
  rw [tickPlayer_of_not_noteWindowOver p now hwithin] at hadvance
  exact absurd hadvance (Nat.succ_ne_self _).symm

/-- Settles O18: both clauses are about the window's test, whose bound is the one of R205. -/
theorem noteWindowIsExact : Obligations.NoteWindowIsExact := by
  refine fun s hplays => ⟨tickMelody s.ports.now s, exec_sTick s, ?_, fun hearly => ?_⟩
  · rw [tickMelody_player, tickPlayer_index_eq_succ_iff _ _ hplays, noteWindowOver_iff_elapsed_gt]
  · have hwithin : noteWindowOver s.player s.ports.now ≠ true := fun hover =>
      hearly.not_gt ((noteWindowOver_iff_elapsed_gt _ _).mp hover)
    rw [tickMelody, tickPlayer_of_not_noteWindowOver _ _ hwithin]

end Sys2Proof.Machine
end

section
/-! PROOFS. The decoder: each format's inverse, then the round trip, the reserved words and the words of the map
(30_encoding.md R91 to R95, R104 to R106). -/

namespace Sys2Proof

open Sys2Proof.Machine Sys2Proof.Claims

/-! ### Each format decodes only its own encodings -/

theorem classOf_append_functionOf (ev : EventWord) : classOf ev ++ functionOf ev = ev :=
  (BitVec.extractLsb'_append_extractLsb'_eq_extractLsb' (start₁ := 0) rfl).trans BitVec.extractLsb'_eq_self

theorem encodeWord_of_decodeEdge (fn : BitVec 4) (i : Instr) (h : decodeEdge fn = .ok i) :
    encodeWord i = 0x0#4 ++ fn := by
  unfold decodeEdge at h
  split at h <;> cases h <;> rfl

theorem encodeWord_of_decodeRequest (fn : BitVec 4) (i : Instr) (h : decodeRequest fn = .ok i) :
    encodeWord i = 0x1#4 ++ fn := by
  unfold decodeRequest at h
  split at h <;> cases h <;> rfl

/-- The three low bits of a function code below 8 are the levels (30_encoding.md R94). -/
theorem encodeTick_getLsbD : ∀ fn : BitVec 4, fn.getLsbD 3 = false →
    encodeTick (fn.getLsbD 2) (fn.getLsbD 1) (fn.getLsbD 0) = 0x2#4 ++ fn := by
  decide

theorem encodeWord_of_decodeTick (fn : BitVec 4) (i : Instr) (h : decodeTick fn = .ok i) :
    encodeWord i = 0x2#4 ++ fn := by
  unfold decodeTick at h
  split at h
  · cases h
  · next hlow =>
    cases h
    exact encodeTick_getLsbD fn (Bool.eq_false_iff.mpr hlow)

theorem encodeWord_of_decodeMicro (fn : BitVec 4) (i : Instr) (h : decodeMicro fn = .ok i) :
    encodeWord i = 0x8#4 ++ fn := by
  unfold decodeMicro at h
  split at h <;> cases h <;> rfl

theorem encodeWord_of_decodeSystem (fn : BitVec 4) (i : Instr) (h : decodeSystem fn = .ok i) :
    encodeWord i = 0xF#4 ++ fn := by
  unfold decodeSystem at h
  split at h <;> cases h
  rfl

/-! ### The round trip -/

theorem encodeWord_of_decodeWord (ev : EventWord) (i : Instr) (h : decodeWord ev = .ok i) : encodeWord i = ev := by
  rw [← classOf_append_functionOf ev]
  unfold decodeWord at h
  split at h
  · next hclass => rw [hclass, encodeWord_of_decodeEdge _ i h]
  · next hclass => rw [hclass, encodeWord_of_decodeRequest _ i h]
  · next hclass => rw [hclass, encodeWord_of_decodeTick _ i h]
  · next hclass => rw [hclass, encodeWord_of_decodeMicro _ i h]
  · next hclass => rw [hclass, encodeWord_of_decodeSystem _ i h]
  · cases h

theorem decodeWord_encodeWord (i : Instr) : decodeWord (encodeWord i) = .ok i := by
  cases i with
  | tick c p m => exact (Laws.EncodesToItsRow.tick c p m).2
  | _ => rfl

theorem decodeWord_eq_ok_iff (i : Instr) (v : EventWord) : decodeWord v = .ok i ↔ v = encodeWord i :=
  ⟨fun h => (encodeWord_of_decodeWord v i h).symm, fun h => h ▸ decodeWord_encodeWord i⟩

theorem decode_encode_append (i : Instr) (rest : List EventWord) : decode (encode i ++ rest) = .ok (i, rest) := by
  rw [encode, List.singleton_append, decode, decodeWord_encodeWord, Except.map]

/-- Settles O45: encoding inverts each format's decoder, and decoding inverts the map. -/
theorem decodeAndEncodeAgree : Obligations.DecodeAndEncodeAgree :=
  ⟨decodeWord_eq_ok_iff, fun i rest _ => decode_encode_append i rest⟩

/-- Settles O46: each word is the encoding of its operation. -/
theorem mapWordsDecode : Obligations.MapWordsDecode :=
  ⟨decodeWord_encodeWord .edge1, decodeWord_encodeWord .reqOpenMail, decodeWord_encodeWord (.tick true true false),
    decodeWord_encodeWord .smSwitch, decodeWord_encodeWord .mRamp, decodeWord_encodeWord .reset⟩

/-! ### The reserved words -/

theorem not_isReservedWord_encodeWord (i : Instr) : ¬ IsReservedWord (encodeWord i) := by
  cases i with
  | tick c p m => cases c <;> cases p <;> cases m <;> unfold IsReservedWord <;> decide
  | _ => unfold IsReservedWord; decide

/-- Every word outside the list of 93_implementation_defined.md V3 is in the map of 30_encoding.md R104. -/
theorem isReservedWord_of_isOk_eq_false (v : EventWord) : (decodeWord v).isOk = false → IsReservedWord v := by
  unfold IsReservedWord
  revert v
  decide

theorem isReservedWord_iff (v : EventWord) : IsReservedWord v ↔ ∀ i, decodeWord v ≠ .ok i := by
  refine ⟨fun hreserved i hok => ?_, fun hnone => isReservedWord_of_isOk_eq_false v ?_⟩
  · rw [(decodeWord_eq_ok_iff i v).mp hok] at hreserved
    exact not_isReservedWord_encodeWord i hreserved
  · cases hd : decodeWord v with
    | ok i => exact absurd hd (hnone i)
    | error e => rfl

theorem acceptEvent_reservedWord (e : Event) (s : State) (h : IsReservedWord e.word) :
    acceptEvent e s = .error (.reservedWord e.word) := by
  cases hd : decodeWord e.word with
  | ok i => exact absurd hd ((isReservedWord_iff e.word).mp h i)
  | error r => simp [acceptEvent, hd]

/-- Settles O47: the reserved words are the undecodable ones, and `acceptEvent` refuses them. -/
theorem reservedWordsRefused : Obligations.ReservedWordsRefused :=
  ⟨isReservedWord_iff, fun s e rest hw hi hreserved =>
    step_refused s e rest _ (agenda_perform s e rest hw hi) (acceptEvent_reservedWord e s hreserved)⟩

end Sys2Proof
end

section
/-! PROOFS. What each operation answers, as one equation each, and the induction over what an operation is made of: a
property that every part keeps is kept by every operation and by the completion of an open poll. -/

namespace Sys2Proof.Machine

open Sys2Proof.Claims

/-! ### What each operation answers -/

theorem exec_edge0 (s : State) : exec .edge0 s = .next (edge false s.ports.now s) := rfl

theorem exec_edge1 (s : State) : exec .edge1 s = .next (edge true s.ports.now s) := rfl

theorem exec_reqClose (s : State) : exec .reqClose s = .next (closeRequest s.ports.now s) := rfl

theorem exec_tick (c p m : Bool) (s : State) :
    exec (.tick c p m) s = cred s.ports.now s.ports.auth (tickFront ⟨c, p, m⟩ s.ports.now s) := rfl

theorem exec_dbSample (s : State) : exec .dbSample s = .next (sampleSwitches s.ports.sw s.ports.now s) := rfl

theorem exec_mWrite (s : State) : exec .mWrite s = .next (writeMotor s.ports.now s) := rfl

theorem exec_smSwitch (s : State) : exec .smSwitch s = .next (switches s.ports.now s) := rfl

theorem exec_smCred (s : State) : exec .smCred s = cred s.ports.now s.ports.auth s := rfl

theorem exec_wPoll_atomic (s : State) (h : s.cfg.pollAtomic = true) :
    exec .wPoll s = .next (poll s.ports.now s) :=
  if_pos h

theorem exec_wPoll_split (s : State) (h : s.cfg.pollAtomic = false) :
    exec .wPoll s = .next (openPoll .alone s.ports.now s.ports.auth s) :=
  if_neg (Bool.eq_false_iff.mp h)

theorem exec_wTake (s : State) : exec .wTake s = .next { (take s).2 with result := .frame (take s).1 } := rfl

theorem exec_sStart (s : State) : exec .sStart s = .next (startMelody s.ports.sel s.ports.now s) := rfl

theorem exec_mRamp (s : State) :
    exec .mRamp s =
      .next { s with result := .duty (toDuty (ramp s.cfg s.ports.elapsed s.ports.target.toNat)) } := rfl

/-- A state code above 8 names no door state (30_encoding.md R96, R105). -/
theorem doorOfCode_eq_none_iff : ∀ code : BitVec 4, doorOfCode code = none ↔ 9 ≤ code.toNat := by
  decide

theorem exec_smEnter (s : State) (g : DoorState) (h : doorOfCode s.ports.stateCode = some g) :
    exec .smEnter s = .next (enter g s.ports.now s) := by
  simp [exec, execSmEnter, h]

theorem exec_smEnter_reserved (s : State) (h : 9 ≤ s.ports.stateCode.toNat) :
    exec .smEnter s = .refused (.reservedStateCode s.ports.stateCode) := by
  simp [exec, execSmEnter, (doorOfCode_eq_none_iff _).mpr h]

theorem exec_mCmd (s : State) (g : DoorState) (h : doorOfCode s.ports.stateCode = some g) :
    exec .mCmd s = .next { s with result := .command (command s.cfg g s.ports.elapsed) } := by
  simp [exec, execMCmd, h]

theorem exec_mCmd_reserved (s : State) (h : 9 ≤ s.ports.stateCode.toNat) :
    exec .mCmd s = .refused (.reservedStateCode s.ports.stateCode) := by
  simp [exec, execMCmd, (doorOfCode_eq_none_iff _).mpr h]

theorem exec_reset (s : State) (h : s.ports.cfg.wf = true) :
    exec .reset s = .next (resetRegisters s.ports.cfg s.ports.now s) :=
  if_pos h

theorem exec_reset_illFormed (s : State) (h : s.ports.cfg.wf = false) : exec .reset s = .refused .illFormedConfig :=
  if_neg (Bool.eq_false_iff.mp h)

/-! ### Outcomes that, if they are a next state, satisfy a property -/

/-- If `o` is a next state, `P` holds of it. -/
def Answers (P : State → Prop) (o : Host.Outcome State Fault Refusal) : Prop := ∀ t, o = .next t → P t

theorem answers_next {P : State → Prop} {t : State} (h : P t) : Answers P (.next t) := by
  rintro u ⟨⟩
  exact h

theorem answers_refused {P : State → Prop} {r : Refusal} : Answers P (.refused r) := by
  rintro u ⟨⟩

/-! ### The induction over the parts of an operation -/

/-- `s` after its frame buffer was read, with `d` in `DIAG` (40_wiegand_decoder.md R126, 42_door_state_machine.md
R180). -/
def frameRead (d : Diag) (s : State) : State := { s with f := { s.f with avail := false }, diag := d }

/-- `P` is kept by each of the parts that the operations other than `SM.ENTER` and `RESET` are composed of, but for the
opening and the closing of a split poll. -/
structure KeptByRegisterParts (P : State → Prop) : Prop where
  edge : ∀ b now s, P s → P (edge b now s)
  openRequest : ∀ k l now s, P s → P (openRequest k l now s)
  closeRequest : ∀ now s, P s → P (closeRequest now s)
  sampleSwitches : ∀ l now s, P s → P (sampleSwitches l now s)
  timed : ∀ now s, P s → P (timed now s)
  writeMotor : ∀ now s, P s → P (writeMotor now s)
  tickMelody : ∀ now s, P s → P (tickMelody now s)
  switches : ∀ now s, P s → P (switches now s)
  startMelody : ∀ sel now s, P s → P (startMelody sel now s)
  pollCommit : ∀ p s, P s → P (pollCommit p s)
  frameRead : ∀ d s, P s → P (frameRead d s)
  noMatch : ∀ code bits s, P s → P (raise (.noMatch code bits) s)
  result : ∀ r s, P s → P { s with result := r }

/-- `P` is kept by the opening and the closing of a split poll too. -/
structure KeptByParts (P : State → Prop) : Prop extends KeptByRegisterParts P where
  openPoll : ∀ k now auth s, P s → P (openPoll k now auth s)
  closeWindow : ∀ s, P s → P { s with window := none }

/-- The operation reads an `AUTH` answer (42_door_state_machine.md R180, 44_tick_and_sync.md R220). -/
def ReadsAnswer (i : Instr) : Prop := i = .smCred ∨ ∃ c p m, i = .tick c p m

namespace KeptByRegisterParts

variable {P : State → Prop}

theorem applyAuth (hP : KeptByRegisterParts P) (a : AuthAnswer) (fr : Frame) (now : Nat) (s : State) (hs : P s) :
    P (applyAuth a fr now s) := by
  rcases applyAuth_cases a fr now s with ⟨k, l, heq, -⟩ | ⟨-, heq⟩
  · exact heq ▸ hP.openRequest k l now s hs
  · exact heq ▸ hP.noMatch _ _ s hs

theorem takeAndAuthorize (hP : KeptByRegisterParts P) (now : Nat) (auth : AuthWord) (s : State) (hs : P s) :
    Answers P (takeAndAuthorize now auth s) := by
  rcases takeAndAuthorize_cases now auth s with ⟨-, heq⟩ | ⟨-, a, -, heq⟩ | ⟨-, -, heq⟩
  · exact heq ▸ answers_next hs
  · exact heq ▸ answers_next (hP.applyAuth a _ now _ (hP.frameRead _ s hs))
  · exact heq ▸ answers_refused

theorem cred (hP : KeptByRegisterParts P) (now : Nat) (auth : AuthWord) (s : State)
    (hopen : ∀ u, P u → P (openPoll .cred now auth u)) (hs : P s) : Answers P (cred now auth s) := by
  by_cases hd : s.door = .locked
  · cases ha : s.cfg.pollAtomic
    · exact cred_locked_split now auth s hd ha ▸ answers_next (hopen s hs)
    · exact cred_locked_atomic now auth s hd ha ▸ hP.takeAndAuthorize now auth _ (hP.pollCommit _ s hs)
  · exact cred_elsewhere now auth s hd ▸ answers_next hs

theorem closePoll (hP : KeptByRegisterParts P) (p : PollWindow) (s : State) (hs : P { s with window := none }) :
    Answers P (closePoll p s) := by
  have hcommit := hP.pollCommit p.snap _ hs
  unfold Machine.closePoll
  cases p.caller with
  | alone => exact answers_next hcommit
  | cred => exact hP.takeAndAuthorize p.now p.auth _ hcommit

theorem tickFront (hP : KeptByRegisterParts P) (l : Levels) (now : Nat) (s : State) (hs : P s) :
    P (tickFront l now s) :=
  hP.switches now _ (hP.tickMelody now _ (hP.writeMotor now _ (hP.timed now _ (hP.sampleSwitches l now s hs))))

theorem take (hP : KeptByRegisterParts P) (s : State) (hs : P s) : P (take s).2 := by
  cases ha : s.f.avail
  · exact take_none s ha ▸ hs
  · exact take_some s ha ▸ hP.frameRead s.diag s hs

theorem wPoll (hP : KeptByRegisterParts P) (s : State)
    (hopen : ∀ u, P u → P (openPoll .alone s.ports.now s.ports.auth u)) (hs : P s) : Answers P (exec .wPoll s) := by
  cases ha : s.cfg.pollAtomic
  · exact exec_wPoll_split s ha ▸ answers_next (hopen s hs)
  · exact exec_wPoll_atomic s ha ▸ answers_next (hP.pollCommit _ s hs)

theorem mCmd (hP : KeptByRegisterParts P) (s : State) (hs : P s) : Answers P (exec .mCmd s) := by
  cases hg : doorOfCode s.ports.stateCode with
  | some g => exact exec_mCmd s g hg ▸ answers_next (hP.result _ s hs)
  | none => exact exec_mCmd_reserved s ((doorOfCode_eq_none_iff _).mp hg) ▸ answers_refused

theorem exec (hP : KeptByRegisterParts P) (i : Instr) (s : State) (henter : i ≠ .smEnter) (hreset : i ≠ .reset)
    (halone : ∀ u, P u → P (openPoll .alone s.ports.now s.ports.auth u))
    (hcred : ReadsAnswer i → ∀ u, P u → P (openPoll .cred s.ports.now s.ports.auth u)) (hs : P s) :
    Answers P (exec i s) :=
  match i with
  | .edge0 => answers_next (hP.edge false _ s hs)
  | .edge1 => answers_next (hP.edge true _ s hs)
  | .reqOpenParcel => answers_next (hP.openRequest .parcel _ _ s hs)
  | .reqOpenMail => answers_next (hP.openRequest .mail _ _ s hs)
  | .reqClose => answers_next (hP.closeRequest _ s hs)
  | .tick c p m => hP.cred _ _ _ (hcred (.inr ⟨c, p, m, rfl⟩)) (hP.tickFront ⟨c, p, m⟩ _ s hs)
  | .dbSample => answers_next (hP.sampleSwitches _ _ s hs)
  | .smTimed => answers_next (hP.timed _ s hs)
  | .mWrite => answers_next (hP.writeMotor _ s hs)
  | .sTick => answers_next (hP.tickMelody _ s hs)
  | .smSwitch => answers_next (hP.switches _ s hs)
  | .smCred => hP.cred _ _ s (hcred (.inl rfl)) hs
  | .wPoll => hP.wPoll s halone hs
  | .wTake => answers_next (hP.result _ _ (hP.take s hs))
  | .sStart => answers_next (hP.startMelody _ _ s hs)
  | .mRamp => answers_next (hP.result _ s hs)
  | .mCmd => hP.mCmd s hs
  | .smEnter => absurd rfl henter
  | .reset => absurd rfl hreset

end KeptByRegisterParts

theorem KeptByParts.closePoll {P : State → Prop} (hP : KeptByParts P) (p : PollWindow) (s : State) (hs : P s) :
    Answers P (closePoll p s) :=
  hP.toKeptByRegisterParts.closePoll p s (hP.closeWindow s hs)

theorem KeptByParts.exec {P : State → Prop} (hP : KeptByParts P) (i : Instr) (s : State) (henter : i ≠ .smEnter)
    (hreset : i ≠ .reset) (hs : P s) : Answers P (exec i s) :=
  hP.toKeptByRegisterParts.exec i s henter hreset (hP.openPoll _ _ _) (fun _ => hP.openPoll _ _ _) hs

theorem answers_smEnter {P : State → Prop} (s : State) (henter : ∀ g, P (enter g s.ports.now s)) :
    Answers P (exec .smEnter s) := by
  cases hg : doorOfCode s.ports.stateCode with
  | some g => exact exec_smEnter s g hg ▸ answers_next (henter g)
  | none => exact exec_smEnter_reserved s ((doorOfCode_eq_none_iff _).mp hg) ▸ answers_refused

theorem answers_reset {P : State → Prop} (s : State)
    (hreset : s.ports.cfg.wf = true → P (resetRegisters s.ports.cfg s.ports.now s)) : Answers P (exec .reset s) := by
  cases hwf : s.ports.cfg.wf
  · exact exec_reset_illFormed s hwf ▸ answers_refused
  · exact exec_reset s hwf ▸ answers_next (hreset hwf)

theorem exec_reset_eq_next (s t : State) (h : exec .reset s = .next t) :
    s.ports.cfg.wf = true ∧ t = resetRegisters s.ports.cfg s.ports.now s :=
  answers_reset (P := fun u => s.ports.cfg.wf = true ∧ u = resetRegisters s.ports.cfg s.ports.now s) s
    (fun hwf => ⟨hwf, rfl⟩) t h

/-! ### The configuration and the input side, which the parts leave alone -/

/-- The configuration, the ports and the presented operations are `c`, `p` and `l`. -/
def HasInputs (c : Cfg) (p : Ports) (l : List Event) (s : State) : Prop := s.cfg = c ∧ s.ports = p ∧ s.inbox = l

theorem timed_hasInputs {c : Cfg} {p : Ports} {l : List Event} (now : Nat) (s : State) (h : HasInputs c p l s) :
    HasInputs c p l (timed now s) := by
  obtain ⟨_, _, _, _, _, heq⟩ := timed_frame now s
  exact heq ▸ h

theorem keptByParts_hasInputs (c : Cfg) (p : Ports) (l : List Event) : KeptByParts (HasInputs c p l) where
  edge b now s h := edge_eq b now s ▸ h
  openRequest k l' now s h := by
    obtain ⟨_, _, _, _, _, _, heq, -⟩ := openRequest_frame k l' now s
    exact heq ▸ h
  closeRequest now s h := by
    cases ho : isOpen s.door
    · exact closeRequest_ignored now s ho ▸ h
    · exact closeRequest_open now s ho ▸ h
  sampleSwitches _ _ _ h := h
  timed := timed_hasInputs
  writeMotor _ _ h := h
  tickMelody _ _ h := h
  switches now s h := by
    obtain ⟨_, _, _, _, heq⟩ := switches_frame now s
    exact heq ▸ h
  startMelody _ _ _ h := h
  openPoll _ _ _ _ h := h
  closeWindow _ h := h
  pollCommit q s h := by
    obtain ⟨_, _, _, heq⟩ := pollCommit_frame q s
    exact heq ▸ h
  frameRead _ _ h := h
  noMatch _ _ _ h := h
  result _ _ h := h

/-- No operation but `RESET` writes the configuration, and none the ports or the presented operations. -/
theorem exec_keeps_inputs (i : Instr) (s t : State) (h : exec i s = .next t) :
    t.ports = s.ports ∧ t.inbox = s.inbox ∧
      (t.cfg = s.cfg ∨ i = .reset ∧ t.cfg = s.ports.cfg ∧ s.ports.cfg.wf = true) := by
  by_cases hreset : i = .reset
  · subst hreset
    obtain ⟨hwf, rfl⟩ := exec_reset_eq_next s t h
    exact ⟨rfl, rfl, .inr ⟨rfl, rfl, hwf⟩⟩
  · have hkept : HasInputs s.cfg s.ports s.inbox t := by
      by_cases henter : i = .smEnter
      · subst henter
        exact answers_smEnter s (fun _ => ⟨rfl, rfl, rfl⟩) t h
      · exact (keptByParts_hasInputs _ _ _).exec i s henter hreset ⟨rfl, rfl, rfl⟩ t h
    exact ⟨hkept.2.1, hkept.2.2, .inl hkept.1⟩

theorem closePoll_keeps_inputs (p : PollWindow) (s t : State) (h : closePoll p s = .next t) :
    HasInputs s.cfg s.ports s.inbox t :=
  (keptByParts_hasInputs _ _ _).closePoll p s ⟨rfl, rfl, rfl⟩ t h

/-- Settles O44: what a step performs is the completion of a poll, a `RESET` with its own port, or another operation. -/
theorem configFixedUntilReset : Obligations.ConfigFixedUntilReset := by
  intro s t h
  rcases step_cases s t h with ⟨-, -, rfl⟩ | ⟨p, -, -, hclose⟩ | ⟨e, rest, i, -, hagenda, haccept, hexec⟩
  · exact .inl rfl
  · exact .inl (closePoll_keeps_inputs p s t hclose).1
  · obtain ⟨hdecode, -, -⟩ := acceptEvent_eq_ok e s i haccept
    obtain ⟨-, -, hsame | ⟨rfl, hcfg, hwf⟩⟩ := exec_keeps_inputs i _ t hexec
    · exact .inl hsame
    · exact .inr ⟨e, ⟨rest, hagenda, hdecode⟩, hcfg, hwf⟩

/-- Settles O54: an accepted event is not earlier than the last operation, and only presenting it writes the port. -/
theorem clockNeverDecreases : Obligations.ClockNeverDecreases := by
  intro s t h
  rcases step_cases s t h with ⟨-, -, rfl⟩ | ⟨p, -, -, hclose⟩ | ⟨e, rest, i, -, -, haccept, hexec⟩
  · exact le_rfl
  · obtain ⟨-, hports, -⟩ := closePoll_keeps_inputs p s t hclose
    exact hports ▸ le_rfl
  · obtain ⟨-, -, hlater⟩ := acceptEvent_eq_ok e s i haccept
    obtain ⟨hports, -, -⟩ := exec_keeps_inputs i _ t hexec
    rw [hports]
    exact hlater

end Sys2Proof.Machine
end

section
/-! PROOFS. The register invariants of 10_state.md R50: each part of an operation keeps them, so every step does. -/

namespace Sys2Proof.Machine

open Sys2Proof.Claims

/-! ### The accumulator and the frame buffer (I1 to I3) -/

/-- A shifted-in bit makes the accumulator at most twice as large, plus one. -/
theorem shiftIn_lt (acc : Code) (b : Bool) (n : Nat) (h : acc.toNat < 2 ^ n) : (shiftIn acc b).toNat < 2 ^ (n + 1) := by
  have hmod : (shiftIn acc b).toNat ≤ 2 * acc.toNat + b.toNat := shiftIn_toNat acc b ▸ Nat.mod_le _ _
  have hbit : b.toNat ≤ 1 := Bool.toNat_le b
  rw [Nat.pow_succ]
  omega

theorem AccumulatorSound.acc_lt {s : State} (h : AccumulatorSound s) (hcnt : s.w.cnt.toNat ≤ 32) :
    s.w.acc.toNat < 2 ^ s.w.cnt.toNat := by
  obtain ⟨hempty, hbound⟩ := h
  by_cases hzero : s.w.cnt = 0#8
  · rw [hempty hzero, hzero]
    decide
  · exact hbound (Nat.pos_of_ne_zero fun h0 => hzero (BitVec.eq_of_toNat_eq h0)) hcnt

theorem AccumulatorSound.edge {s : State} (h : AccumulatorSound s) (b : Bool) (now : Nat) :
    AccumulatorSound (edge b now s) := by
  rw [edge_eq]
  refine ⟨fun hzero => absurd hzero (satInc_ne_zero s.w.cnt), fun _ hle => ?_⟩
  have hcnt : (edgeGroup b now s.w).cnt.toNat = min (s.w.cnt.toNat + 1) 255 := satInc_toNat s.w.cnt
  have hbelow : s.w.cnt.toNat < 32 := by
    have : (edgeGroup b now s.w).cnt.toNat ≤ 32 := hle
    omega
  have hshift : (edgeGroup b now s.w).acc = shiftIn s.w.acc b := if_pos hbelow
  show (edgeGroup b now s.w).acc.toNat < 2 ^ (edgeGroup b now s.w).cnt.toNat
  rw [hcnt, hshift, min_eq_left (by omega)]
  exact shiftIn_lt _ b _ (h.acc_lt hbelow.le)

theorem accumulatorSound_of_empty (s : State) (hacc : s.w.acc = 0#32) (hcnt : s.w.cnt = 0#8) : AccumulatorSound s :=
  ⟨fun _ => hacc, fun hpos => absurd hpos (by simp [hcnt])⟩

theorem RegistersSound.pollCommit {s : State} (h : RegistersSound s) (p : PollSnap) :
    RegistersSound (pollCommit p s) := by
  cases hgo : p.go
  · exact (pollCommit_stay p s hgo).symm ▸ h
  · by_cases hlong : s.cfg.minBits ≤ p.cnt.toNat
    · rw [pollCommit_publish p s hgo hlong]
      exact ⟨accumulatorSound_of_empty _ rfl rfl, fun _ => hlong, h.motor, h.melody, h.config⟩
    · rw [pollCommit_short p s hgo hlong]
      exact ⟨accumulatorSound_of_empty _ rfl rfl, h.buffer, h.motor, h.melody, h.config⟩

/-! ### The motor command (I4) -/

theorem brake_le_of_wf {c : Cfg} (h : c.wf = true) : c.brake ≤ 255 := by
  obtain ⟨hduties, -⟩ := c.wf_iff.mp h
  obtain ⟨-, -, -, hbrake⟩ := c.dutiesInRange_iff.mp hduties
  exact hbrake

theorem brakeCommand_toNat (c : Cfg) (h : c.wf = true) :
    (brakeCommand c).a.toNat = c.brake ∧ (brakeCommand c).b.toNat = c.brake :=
  ⟨toDuty_toNat _ (brake_le_of_wf h), toDuty_toNat _ (brake_le_of_wf h)⟩

theorem motorSound_writeMotor (now : Nat) (s : State) (h : s.cfg.wf = true) : MotorSound (writeMotor now s) := by
  unfold MotorSound
  rw [writeMotor_pwm, writeMotor_cfg]
  rcases command_cases s.cfg s.door (now - s.motorAt) with ⟨-, hbrake⟩ | ⟨-, hchannel⟩
  · exact hbrake ▸ .inr (.inl (brakeCommand_toNat s.cfg h))
  · exact .inr (.inr hchannel)

/-! ### The melody (I5) -/

theorem lookupMelody_wf (c : Cfg) (sel : Selection) (h : c.wf = true) : (lookupMelody c sel).wf = true := by
  obtain ⟨-, -, -, hdivisors, -⟩ := c.wf_iff.mp h
  obtain ⟨hdefault, htable⟩ := c.divisorsPositive_iff.mp hdivisors
  unfold lookupMelody
  cases hfound : c.melodyTable.lookup sel with
  | none => exact hdefault
  | some m =>
    obtain ⟨_, _, hsplit, -⟩ := List.lookup_eq_some_iff.mp hfound
    exact htable (sel, m) (by simp [hsplit])

/-- (I5) and the premise on the latched melody, for the melody registers by themselves. -/
def PlayerSound (p : Player) : Prop :=
  (p.playing = true → ∃ n, p.mel.notes[p.index]? = some n ∧ p.buz = .tone n.frequency p.dur) ∧ p.mel.wf = true

theorem playerSound_startPlayer (m : Melody) (now : Nat) (p : Player) (hwf : m.wf = true) :
    PlayerSound (startPlayer m now p) := by
  rcases startPlayer_cases m now p with ⟨n, hnote, heq⟩ | ⟨-, heq⟩
  · exact heq ▸ ⟨fun _ => ⟨n, hnote, rfl⟩, hwf⟩
  · exact heq ▸ ⟨fun hplays => absurd hplays Bool.false_ne_true, hwf⟩

theorem PlayerSound.tickPlayer {p : Player} (h : PlayerSound p) (now : Nat) : PlayerSound (tickPlayer now p) := by
  rcases tickPlayer_cases now p with ⟨-, heq⟩ | ⟨-, -, n, hnote, heq⟩ | ⟨-, -, -, heq⟩
  · exact heq.symm ▸ h
  · exact heq ▸ ⟨fun _ => ⟨n, hnote, rfl⟩, h.2⟩
  · exact heq ▸ ⟨fun hplays => absurd hplays Bool.false_ne_true, h.2⟩

theorem RegistersSound.player {s : State} (h : RegistersSound s) : PlayerSound s.player := ⟨h.melody, h.config.2⟩

theorem RegistersSound.setPlayer {s : State} (h : RegistersSound s) (p : Player) (hp : PlayerSound p) :
    RegistersSound { s with player := p } :=
  ⟨h.accumulator, h.buffer, h.motor, hp.1, h.config.1, hp.2⟩

theorem RegistersSound.startMelody {s : State} (h : RegistersSound s) (sel : Selection) (now : Nat) :
    RegistersSound (startMelody sel now s) :=
  h.setPlayer _ (playerSound_startPlayer _ now _ (lookupMelody_wf s.cfg sel h.config.1))

theorem RegistersSound.tickMelody {s : State} (h : RegistersSound s) (now : Nat) :
    RegistersSound (tickMelody now s) :=
  h.setPlayer _ (h.player.tickPlayer now)

/-! ### The door operations write none of these registers but the melody's -/

theorem RegistersSound.enter {s : State} (h : RegistersSound s) (g : DoorState) (now : Nat) :
    RegistersSound (enter g now s) :=
  ⟨h.accumulator, h.buffer, h.motor, h.melody, h.config⟩

theorem RegistersSound.raise {s : State} (h : RegistersSound s) (c : Condition) : RegistersSound (raise c s) :=
  ⟨h.accumulator, h.buffer, h.motor, h.melody, h.config⟩

theorem RegistersSound.openRequest {s : State} (h : RegistersSound s) (k : Kind) (l : Label) (now : Nat) :
    RegistersSound (openRequest k l now s) := by
  by_cases hd : s.door = .locked
  · have hstarted := h.startMelody s.cfg.melodySelect now
    rw [openRequest_locked k l now s hd]
    exact ⟨h.accumulator, h.buffer, h.motor, hstarted.melody, hstarted.config⟩
  · exact openRequest_ignored k l now s hd ▸ h.raise _

theorem RegistersSound.resetRegisters (c : Cfg) (now : Nat) (s : State) (h : c.wf = true) :
    RegistersSound (resetRegisters c now s) := by
  obtain ⟨-, -, -, hdivisors, -⟩ := c.wf_iff.mp h
  obtain ⟨hdefault, -⟩ := c.divisorsPositive_iff.mp hdivisors
  exact ⟨accumulatorSound_of_empty _ rfl rfl, fun hpending => absurd hpending Bool.false_ne_true, .inl rfl,
    fun hplays => absurd hplays Bool.false_ne_true, h, hdefault⟩

/-! ### Every step keeps the invariants -/

theorem keptByParts_registersSound : KeptByParts RegistersSound where
  edge b now s h := by
    have hsound := h.accumulator.edge b now
    rw [edge_eq] at hsound ⊢
    exact ⟨hsound, h.buffer, h.motor, h.melody, h.config⟩
  openRequest k l now _ h := h.openRequest k l now
  closeRequest now s h := by
    cases ho : isOpen s.door
    · exact closeRequest_ignored now s ho ▸ h.raise _
    · exact closeRequest_open now s ho ▸ h.enter _ now
  sampleSwitches _ _ _ h := ⟨h.accumulator, h.buffer, h.motor, h.melody, h.config⟩
  timed now s h := by
    obtain ⟨_, _, _, _, _, heq⟩ := timed_frame now s
    exact heq ▸ ⟨h.accumulator, h.buffer, h.motor, h.melody, h.config⟩
  writeMotor now s h := ⟨h.accumulator, h.buffer, motorSound_writeMotor now s h.config.1, h.melody, h.config⟩
  tickMelody now _ h := h.tickMelody now
  switches now s h := by
    obtain ⟨_, _, _, _, heq⟩ := switches_frame now s
    exact heq ▸ ⟨h.accumulator, h.buffer, h.motor, h.melody, h.config⟩
  startMelody sel now _ h := h.startMelody sel now
  openPoll _ _ _ _ h := ⟨h.accumulator, h.buffer, h.motor, h.melody, h.config⟩
  closeWindow _ h := ⟨h.accumulator, h.buffer, h.motor, h.melody, h.config⟩
  pollCommit p _ h := h.pollCommit p
  frameRead _ _ h :=
    ⟨h.accumulator, fun hpending => absurd hpending Bool.false_ne_true, h.motor, h.melody, h.config⟩
  noMatch _ _ _ h := h.raise _
  result _ _ h := ⟨h.accumulator, h.buffer, h.motor, h.melody, h.config⟩

theorem exec_registersSound (i : Instr) (s : State) (h : RegistersSound s) : Answers RegistersSound (exec i s) := by
  by_cases henter : i = .smEnter
  · exact henter ▸ answers_smEnter s fun g => h.enter g _
  by_cases hreset : i = .reset
  · exact hreset ▸ answers_reset s fun hwf => RegistersSound.resetRegisters _ _ s hwf
  exact keptByParts_registersSound.exec i s henter hreset h

/-- Settles O55: idling, completing a poll and performing an operation all keep the invariants. -/
theorem stepKeepsRegisterInvariants : Obligations.StepKeepsRegisterInvariants := by
  intro s t h hstep
  rcases step_cases s t hstep with ⟨-, -, rfl⟩ | ⟨p, -, -, hclose⟩ | ⟨e, rest, i, -, -, -, hexec⟩
  · exact h
  · exact keptByParts_registersSound.closePoll p s h t hclose
  · have hpresented : RegistersSound (present e rest s) := ⟨h.accumulator, h.buffer, h.motor, h.melody, h.config⟩
    exact exec_registersSound i _ hpresented t hexec

theorem powerOn_wf : Config.powerOn.wf = true := by decide

/-- `State.reset` is a `RESET` at time 0 that latches the power-on configuration (70_reset_and_hazards.md R300). -/
theorem resetRegisters_powerOn (s : State) (hports : s.ports = Ports.powerOn) (hinbox : s.inbox = [])
    (hdraws : s.draws = 0) : resetRegisters Config.powerOn 0 s = State.reset := by
  simp [resetRegisters, State.reset, hports, hinbox, hdraws]

/-- Settles O56: `State.reset` is the result of a `RESET`, which establishes the invariants. -/
theorem registerInvariantsAtReset : Obligations.RegisterInvariantsAtReset := by
  have hreset := resetRegisters_powerOn { State.reset with draws := 0 } rfl rfl rfl
  unfold Obligations.RegisterInvariantsAtReset
  exact hreset ▸ RegistersSound.resetRegisters _ _ _ powerOn_wf

end Sys2Proof.Machine
end

section
/-! PROOFS. `NOTIFY` as the trace of the realized transitions, and `MotorError` as a state that no operation leaves
(42_door_state_machine.md R184, R185; 10_state.md R50). -/

namespace Sys2Proof.Machine

open Sys2Proof.Claims

/-! ### `NOTIFY` (I7) -/

theorem NotifySound.of_same {s t : State} (h : NotifySound s) (hnotify : t.notify = s.notify)
    (hdoor : t.door = s.door) : NotifySound t := by
  unfold NotifySound
  rw [hnotify, hdoor]
  exact h

/-- A transition to another state extends the trace (42_door_state_machine.md R160, R185). -/
theorem NotifySound.enter {s : State} (h : NotifySound s) (g : DoorState) (now : Nat) (hne : s.door ≠ g) :
    NotifySound (enter g now s) := by
  obtain ⟨hchain, hlast⟩ := h
  have htrace : DoorState.locked :: (Machine.enter g now s).notify.map Prod.fst =
      (DoorState.locked :: s.notify.map Prod.fst) ++ [g] := by simp
  unfold NotifySound
  rw [htrace]
  refine ⟨List.isChain_append.mpr ⟨hchain, List.isChain_singleton g, ?_⟩, List.getLast?_concat⟩
  rintro x hx y hy
  rw [hlast] at hx
  cases hx
  cases hy
  exact hne

/-- No row of the table of timed transitions leads back to its own state (42_door_state_machine.md R166 to R171). -/
theorem NotifySound.timed {s : State} (h : NotifySound s) (now : Nat) : NotifySound (timed now s) := by
  rcases timed_cases now s with heq | ⟨g, cs, heq, hrow⟩
  · exact heq.symm ▸ h
  · have hraised : NotifySound { s with conditions := s.conditions ++ cs } := h
    refine heq ▸ hraised.enter g now fun (hsame : s.door = g) => ?_
    rw [hsame] at hrow
    rcases hrow with ⟨hfrom, hto, -⟩ | ⟨hfrom, hto, -⟩ | ⟨hfrom, hto, -⟩ | ⟨hfrom, hto, -⟩ | ⟨hfrom, hto, -⟩ <;>
      subst hto <;> simp [isMotorDriving, isOpen] at hfrom

/-- No switch of a state leads back to that state (42_door_state_machine.md R175 to R177). -/
theorem NotifySound.switches {s : State} (h : NotifySound s) (now : Nat) : NotifySound (switches now s) := by
  have hrecorded : NotifySound (recordNosw now s) := h
  unfold Machine.switches
  rcases switchTransition_cases now (recordNosw now s) with heq | ⟨g, heq, hrow⟩
  · exact heq.symm ▸ hrecorded
  · refine heq ▸ hrecorded.enter g now fun hsame => ?_
    rw [hsame] at hrow
    rcases hrow with ⟨hfrom, hto, -⟩ | ⟨hfrom, hto, -⟩ | ⟨hfrom, hto, -⟩ <;> cases hfrom.symm.trans hto

theorem preOpening_ne_locked (k : Kind) : preOpening k ≠ .locked := by
  cases k <;> decide

theorem NotifySound.openRequest {s : State} (h : NotifySound s) (k : Kind) (l : Label) (now : Nat) :
    NotifySound (openRequest k l now s) := by
  by_cases hd : s.door = .locked
  · have hstarted : NotifySound (Machine.startMelody s.cfg.melodySelect now { s with attr := l }) := h
    have haccepted := hstarted.enter (preOpening k) now (hd.symm ▸ (preOpening_ne_locked k).symm)
    exact haccepted.of_same (by rw [openRequest_locked k l now s hd]; rfl)
      (by rw [openRequest_locked k l now s hd]; rfl)
  · exact (openRequest_ignored k l now s hd).symm ▸ h

theorem NotifySound.closeRequest {s : State} (h : NotifySound s) (now : Nat) : NotifySound (closeRequest now s) := by
  cases ho : isOpen s.door
  · exact (closeRequest_ignored now s ho).symm ▸ h
  · refine closeRequest_open now s ho ▸ h.enter _ now fun hlocking => ?_
    rw [hlocking] at ho
    cases ho

theorem keptByParts_notifySound : KeptByParts NotifySound where
  edge b now s h := (edge_eq b now s).symm ▸ h
  openRequest k l now _ h := h.openRequest k l now
  closeRequest now _ h := h.closeRequest now
  sampleSwitches _ _ _ h := h
  timed now _ h := h.timed now
  writeMotor _ _ h := h
  tickMelody _ _ h := h
  switches now _ h := h.switches now
  startMelody _ _ _ h := h
  openPoll _ _ _ _ h := h
  closeWindow _ h := h
  pollCommit p s h := by
    obtain ⟨_, _, _, heq⟩ := pollCommit_frame p s
    exact heq ▸ h
  frameRead _ _ h := h
  noMatch _ _ _ h := h
  result _ _ h := h

/-- A `RESET` starts the trace afresh: `NOTIFY` is empty in the initial `Locked` (10_state.md R39). -/
theorem notifySound_resetRegisters (c : Cfg) (now : Nat) (s : State) : NotifySound (resetRegisters c now s) :=
  ⟨List.isChain_singleton _, rfl⟩

theorem exec_notifySound (i : Instr) (s : State) (henter : i ≠ .smEnter) (h : NotifySound s) :
    Answers NotifySound (exec i s) := by
  by_cases hreset : i = .reset
  · exact hreset ▸ answers_reset s fun _ => notifySound_resetRegisters _ _ s
  · exact keptByParts_notifySound.exec i s henter hreset h

/-- Settles O31: no part of an operation but `SM.ENTER` enters the state it is in. -/
theorem stepKeepsNotifyTrace : Obligations.StepKeepsNotifyTrace := by
  intro s t h hstep hharness
  rcases step_cases s t hstep with ⟨-, -, rfl⟩ | ⟨p, -, -, hclose⟩ | ⟨e, rest, i, -, hagenda, haccept, hexec⟩
  · exact h
  · exact keptByParts_notifySound.closePoll p s h t hclose
  · obtain ⟨hdecode, -, -⟩ := acceptEvent_eq_ok e s i haccept
    have henter : i ≠ .smEnter := by
      rintro rfl
      exact hharness e ⟨rest, hagenda, hdecode⟩
    have hpresented : NotifySound (present e rest s) := h
    exact exec_notifySound i _ henter hpresented t hexec

/-- Settles O32: `State.reset` is the result of a `RESET`. -/
theorem notifyTraceAtReset : Obligations.NotifyTraceAtReset := by
  have hreset := resetRegisters_powerOn { State.reset with draws := 0 } rfl rfl rfl
  exact ⟨hreset ▸ notifySound_resetRegisters _ _ _, rfl⟩

/-! ### `MotorError` (I8) -/

/-- `s` is in `MotorError`, with the attribution, the notifications and the timestamps of the door that `s₀` has. -/
def RestsInMotorError (s₀ s : State) : Prop :=
  s.door = .motorError ∧ s.attr = s₀.attr ∧ s.notify = s₀.notify ∧ s.phaseAt = s₀.phaseAt ∧ s.motorAt = s₀.motorAt

theorem switches_motorError (now : Nat) (s : State) (h : s.door = .motorError) :
    switches now s = recordNosw now s := by
  rcases switchTransition_cases now (recordNosw now s) with heq | ⟨g, -, hrow⟩
  · exact heq
  · simp [h] at hrow

theorem openRequest_motorError (k : Kind) (l : Label) (now : Nat) (s : State) (h : s.door = .motorError) :
    openRequest k l now s = raise .ignoredRequest s :=
  openRequest_ignored k l now s (by simp [h])

theorem closeRequest_motorError (now : Nat) (s : State) (h : s.door = .motorError) :
    closeRequest now s = raise .ignoredRequest s :=
  closeRequest_ignored now s (by simp [h, isOpen])

theorem keptByParts_restsInMotorError (s₀ : State) : KeptByParts (RestsInMotorError s₀) where
  edge b now s h := (edge_eq b now s).symm ▸ h
  openRequest k l now s h := (openRequest_motorError k l now s h.1).symm ▸ h
  closeRequest now s h := (closeRequest_motorError now s h.1).symm ▸ h
  sampleSwitches _ _ _ h := h
  timed now s h := (timed_motorError now s h.1).symm ▸ h
  writeMotor _ _ h := h
  tickMelody _ _ h := h
  switches now s h := (switches_motorError now s h.1).symm ▸ h
  startMelody _ _ _ h := h
  openPoll _ _ _ _ h := h
  closeWindow _ h := h
  pollCommit p s h := by
    obtain ⟨_, _, _, heq⟩ := pollCommit_frame p s
    exact heq ▸ h
  frameRead _ _ h := h
  noMatch _ _ _ h := h
  result _ _ h := h

/-- Settles O30: every part of an operation rests in `MotorError`. -/
theorem motorErrorOnlyLeftByReset : Obligations.MotorErrorOnlyLeftByReset := by
  intro s t hd hstep hother
  have hrests : RestsInMotorError s s := ⟨hd, rfl, rfl, rfl, rfl⟩
  rcases step_cases s t hstep with ⟨-, -, rfl⟩ | ⟨p, -, -, hclose⟩ | ⟨e, rest, i, -, hagenda, haccept, hexec⟩
  · exact hrests
  · exact (keptByParts_restsInMotorError s).closePoll p s hrests t hclose
  · obtain ⟨hdecode, -, -⟩ := acceptEvent_eq_ok e s i haccept
    obtain ⟨hnoReset, hnoEnter⟩ := hother e
    have hpresented : RestsInMotorError s (present e rest s) := hrests
    refine (keptByParts_restsInMotorError s).exec i _ ?_ ?_ hpresented t hexec
    · rintro rfl
      exact hnoEnter ⟨rest, hagenda, hdecode⟩
    · rintro rfl
      exact hnoReset ⟨rest, hagenda, hdecode⟩

end Sys2Proof.Machine
end

section
/-! PROOFS. The Wiegand decoder: an edge, a poll and a take, then a whole transmission (40_wiegand_decoder.md R120 to
R127, 44_tick_and_sync.md R228). -/

namespace Sys2Proof.Machine

open Sys2Proof.Claims

/-! ### One edge -/

theorem edgeGroup_acc_below (b : Bool) (now : Nat) (w : InProgress) (h : w.cnt.toNat < 32) :
    (edgeGroup b now w).acc = shiftIn w.acc b :=
  if_pos h

theorem edgeGroup_acc_above (b : Bool) (now : Nat) (w : InProgress) (h : 32 ≤ w.cnt.toNat) :
    (edgeGroup b now w).acc = w.acc :=
  if_neg h.not_gt

theorem edgeGroup_cnt_toNat (b : Bool) (now : Nat) (w : InProgress) :
    (edgeGroup b now w).cnt.toNat = min (w.cnt.toNat + 1) 255 :=
  satInc_toNat w.cnt

theorem edge_last (b : Bool) (now : Nat) (s : State) : (edge b now s).w.last = now := by
  rw [edge_eq]
  rfl

/-- What `EDGE0` and `EDGE1` do, for either bit (40_wiegand_decoder.md R120). -/
theorem edge_shifts (b : Bool) (now : Nat) (s : State) :
    (s.w.cnt.toNat < 32 →
      (edge b now s).w.acc.toNat = (2 * s.w.acc.toNat + b.toNat) % 2 ^ 32 ∧ (edge b now s).noted = s.noted) ∧
    (32 ≤ s.w.cnt.toNat → (edge b now s).w.acc = s.w.acc ∧
      (edge b now s).noted = s.noted ++ [.overlong (edge b now s).w.cnt]) ∧
    (edge b now s).w.cnt.toNat = min (s.w.cnt.toNat + 1) 255 ∧ (edge b now s).w.last = now ∧
    edge b now s = { s with w := (edge b now s).w, noted := (edge b now s).noted } := by
  rw [edge_eq]
  refine ⟨fun hbelow => ⟨?_, by simp [hbelow]⟩, fun habove => ⟨edgeGroup_acc_above b now s.w habove, ?_⟩,
    edgeGroup_cnt_toNat b now s.w, rfl, rfl⟩
  · rw [edgeGroup_acc_below b now s.w hbelow, shiftIn_toNat]
  · simp [habove.not_gt, edgeGroup]

/-- Settles O1: the edge of bit 0. -/
theorem edgeZeroShiftsInZero : Obligations.EdgeZeroShiftsInZero :=
  fun s => ⟨_, exec_edge0 s, edge_shifts false s.ports.now s⟩

/-- Settles O2: the edge of bit 1. -/
theorem edgeOneShiftsInOne : Obligations.EdgeOneShiftsInOne :=
  fun s => ⟨_, exec_edge1 s, edge_shifts true s.ports.now s⟩

/-! ### A poll and a take in the words of the statements -/

theorem pollSnap_eq_snapshot (now : Nat) (s : State) : pollSnap now s = snapshot now s := by
  simp [pollSnap, snapshot, frameInProgress, quietOver]

theorem pollSnap_go_iff (now : Nat) (s : State) :
    (pollSnap now s).go = true ↔ s.w.cnt ≠ 0#8 ∧ now - s.w.last > s.cfg.quietMs := by
  simp [pollSnap_eq_snapshot, snapshot]

/-- The two halves of the model's poll are the one step of 40_wiegand_decoder.md R124. -/
theorem poll_eq_polled (now : Nat) (s : State) : poll now s = polled now s := by
  unfold poll polled
  by_cases hgo : s.w.cnt ≠ 0#8 ∧ now - s.w.last > s.cfg.quietMs
  · have hfinal := (pollSnap_go_iff now s).mpr hgo
    by_cases hlong : s.cfg.minBits ≤ s.w.cnt.toNat
    · rw [if_pos hgo, if_pos hlong, pollCommit_publish _ s hfinal hlong]
      rfl
    · rw [if_pos hgo, if_neg hlong, pollCommit_short _ s hfinal hlong]
      rfl
  · rw [if_neg hgo, pollCommit_stay _ s (Bool.eq_false_iff.mpr fun h => hgo ((pollSnap_go_iff now s).mp h))]

/-- Settles O3: the atomic poll. -/
theorem pollFinalizesAfterQuiet : Obligations.PollFinalizesAfterQuiet := by
  intro s hatomic
  rw [exec_wPoll_atomic s hatomic, poll_eq_polled]

/-- Settles O4: the first half of the split poll. -/
theorem splitPollTakesSnapshot : Obligations.SplitPollTakesSnapshot := by
  intro s hsplit
  rw [exec_wPoll_split s hsplit, openPoll, pollSnap_eq_snapshot]

theorem exec_wTake_some (s : State) (h : s.f.avail = true) :
    exec .wTake s =
      .next { s with
        f := { s.f with avail := false }
        result := .frame (some ⟨s.f.code, s.f.bits, s.f.at_⟩) } := by
  rw [exec_wTake, take_some s h]

theorem exec_wTake_none (s : State) (h : s.f.avail = false) :
    exec .wTake s = .next { s with result := .frame none } := by
  rw [exec_wTake, take_none s h]

/-- Settles O7: a take leaves the buffer empty, so that the second one finds nothing. -/
theorem takeReturnsFrameOnce : Obligations.TakeReturnsFrameOnce := by
  refine fun s => ⟨exec_wTake_some s, exec_wTake_none s, ?_⟩
  cases ha : s.f.avail
  · exact ⟨_, _, exec_wTake_none s ha, exec_wTake_none _ ha, rfl, rfl⟩
  · exact ⟨_, _, exec_wTake_some s ha, exec_wTake_none _ rfl, rfl, rfl⟩

/-! ### A transmission, edge by edge -/

theorem exec_edgeOf (b : Bool) (s : State) :
    exec (if b then .edge1 else .edge0) s = .next (edge b s.ports.now s) := by
  cases b <;> rfl

theorem runEdges_cons (b : Bool) (t : Nat) (es : List (Bool × Nat)) (s : State) :
    runEdges ((b, t) :: es) s = runEdges es (edge b t (atTime t s)) := by
  rw [runEdges, exec_edgeOf]
  rfl

theorem runEdges_concat (es : List (Bool × Nat)) (b : Bool) (t : Nat) (s u : State) (h : runEdges es s = some u) :
    runEdges (es ++ [(b, t)]) s = some (edge b t (atTime t u)) := by
  induction es generalizing s with
  | nil =>
    cases h
    rw [List.nil_append, runEdges_cons]
    rfl
  | cons e es ih =>
    rw [runEdges_cons] at h
    rw [List.cons_append, runEdges_cons]
    exact ih _ h

/-- The 33rd and later bits do not show in the value (40_wiegand_decoder.md R127). -/
theorem frameValue_concat_above (es : List (Bool × Nat)) (e : Bool × Nat) (h : 32 ≤ es.length) :
    frameValue (es ++ [e]) = frameValue es := by
  unfold frameValue
  have hlen : min (es ++ [e]).length 32 = 32 := by simp; omega
  rw [hlen, min_eq_right h]
  refine Finset.sum_congr rfl fun i hi => ?_
  have hi' : i < es.length := (Finset.mem_range.mp hi).trans_le h
  rw [List.map_append, List.getD_append _ _ _ _ (by simpa using hi')]

/-- A bit more doubles the value and adds the bit (40_wiegand_decoder.md R120). -/
theorem frameValue_concat_below (es : List (Bool × Nat)) (b : Bool) (t : Nat) (h : es.length < 32) :
    frameValue (es ++ [(b, t)]) = 2 * frameValue es + b.toNat := by
  unfold frameValue
  have hlen : min (es ++ [(b, t)]).length 32 = es.length + 1 := by simp; omega
  rw [hlen, min_eq_left h.le, Finset.sum_range_succ, Finset.mul_sum]
  congr 1
  · refine Finset.sum_congr rfl fun i hi => ?_
    have hi' : i < es.length := Finset.mem_range.mp hi
    rw [List.map_append, List.getD_append _ _ _ _ (by simpa using hi'),
      show es.length + 1 - 1 - i = es.length - 1 - i + 1 by omega, pow_succ]
    ring
  · rw [List.map_append, List.getD_append_right _ _ _ _ (by simp)]
    simp

theorem frameValue_lt (es : List (Bool × Nat)) : frameValue es < 2 ^ min es.length 32 := by
  induction es using List.reverseRecOn with
  | nil => simp [frameValue]
  | append_singleton es e ih =>
    rcases Nat.lt_or_ge es.length 32 with hbelow | habove
    · rw [min_eq_left hbelow.le] at ih
      have hbit : e.1.toNat ≤ 1 := Bool.toNat_le e.1
      have hlen : min (es ++ [e]).length 32 = es.length + 1 := by simp; omega
      rw [frameValue_concat_below es e.1 e.2 hbelow, hlen, pow_succ]
      omega
    · have hlen : min (es ++ [e]).length 32 = 32 := by simp; omega
      rw [frameValue_concat_above es e habove, hlen]
      rwa [min_eq_right habove] at ih

/-- The reader's registers of `u` hold the edges `es`, received from the empty group of `s`. -/
structure Received (es : List (Bool × Nat)) (s u : State) : Prop where
  acc : u.w.acc.toNat = frameValue es
  cnt : u.w.cnt.toNat = min es.length 255
  buffer : u.f = s.f
  cfg : u.cfg = s.cfg

theorem Received.edge {es : List (Bool × Nat)} {s u : State} (h : Received es s u) (b : Bool) (t : Nat) :
    Received (es ++ [(b, t)]) s (edge b t (atTime t u)) := by
  obtain ⟨hbelow, habove, hcnt, -, hframe⟩ := edge_shifts b t (atTime t u)
  refine ⟨?_, ?_, hframe ▸ h.buffer, hframe ▸ h.cfg⟩
  · rcases Nat.lt_or_ge es.length 32 with hfew | hmany
    · have hlt := frameValue_lt es
      have hpow : (2 : Nat) ^ es.length ≤ 2 ^ 31 := Nat.pow_le_pow_right (by decide) (by omega)
      have hbit : b.toNat ≤ 1 := Bool.toNat_le b
      rw [min_eq_left hfew.le] at hlt
      rw [(hbelow (show u.w.cnt.toNat < 32 by rw [h.cnt]; omega)).1, frameValue_concat_below es b t hfew]
      show (2 * u.w.acc.toNat + b.toNat) % 2 ^ 32 = _
      rw [h.acc, Nat.mod_eq_of_lt (by omega)]
    · rw [(habove (show 32 ≤ u.w.cnt.toNat by rw [h.cnt]; omega)).1, frameValue_concat_above es _ hmany]
      exact h.acc
  · rw [hcnt, List.length_append, List.length_singleton]
    show min (u.w.cnt.toNat + 1) 255 = _
    rw [h.cnt]
    omega

theorem runEdges_received (s : State) (hcnt : s.w.cnt = 0#8) (hacc : s.w.acc = 0#32) (es : List (Bool × Nat)) :
    ∃ u, runEdges es s = some u ∧ Received es s u := by
  induction es using List.reverseRecOn with
  | nil => exact ⟨s, rfl, by simp [hacc, frameValue], by simp [hcnt], rfl, rfl⟩
  | append_singleton es e ih =>
    obtain ⟨u, hrun, hreceived⟩ := ih
    exact ⟨_, runEdges_concat es e.1 e.2 s u hrun, hreceived.edge e.1 e.2⟩

/-- A poll that finalizes empties the group, whether or not it publishes (40_wiegand_decoder.md R124). -/
theorem polled_group (now : Nat) (s : State) (hcnt : s.w.cnt ≠ 0#8) (hquiet : now - s.w.last > s.cfg.quietMs) :
    (polled now s).w = ⟨0#32, 0#8, s.w.last⟩ := by
  rw [polled, if_pos ⟨hcnt, hquiet⟩]
  split <;> rfl

theorem polled_buffer_long (now : Nat) (s : State) (hcnt : s.w.cnt ≠ 0#8) (hquiet : now - s.w.last > s.cfg.quietMs)
    (hlong : s.cfg.minBits ≤ s.w.cnt.toNat) :
    (polled now s).f = ⟨s.w.acc, s.w.cnt, s.w.last, true⟩ := by
  rw [polled, if_pos ⟨hcnt, hquiet⟩, if_pos hlong]

theorem polled_buffer_short (now : Nat) (s : State) (hcnt : s.w.cnt ≠ 0#8) (hquiet : now - s.w.last > s.cfg.quietMs)
    (hshort : s.w.cnt.toNat < s.cfg.minBits) :
    (polled now s).f = s.f := by
  rw [polled, if_pos ⟨hcnt, hquiet⟩, if_neg hshort.not_ge]

/-- Settles O8: the group after the last edge is received, and the poll publishes it or drops it. -/
theorem frameHoldsFirstBits : Obligations.FrameHoldsFirstBits := by
  intro s es b t now hcnt hacc hatomic hmin hquiet
  obtain ⟨u, hrun, hbefore⟩ := runEdges_received s hcnt hacc es
  have hreceived := hbefore.edge b t
  have hstamp : (edge b t (atTime t u)).w.last = t := edge_last b t _
  have hrunAll := runEdges_concat es b t s u hrun
  generalize edge b t (atTime t u) = q at hreceived hstamp hrunAll
  have hcount : q.w.cnt.toNat = min (es.length + 1) 255 := by simpa using hreceived.cnt
  have hsome : q.w.cnt ≠ 0#8 := fun hzero => by
    rw [hzero] at hcount
    simp at hcount
    omega
  have hover : now - q.w.last > q.cfg.quietMs := by rw [hstamp, hreceived.cfg]; exact hquiet
  refine ⟨q, polled now (atTime now q), hrunAll, ?_, ?_, fun hlong => ?_, fun hshort => ?_⟩
  · exact pollFinalizesAfterQuiet (atTime now q) (hreceived.cfg ▸ hatomic)
  · rw [← hstamp]
    exact polled_group now (atTime now q) hsome hover
  · have hmin' : q.cfg.minBits ≤ q.w.cnt.toNat := by rw [hreceived.cfg, hcount]; omega
    have hframe := polled_buffer_long now (atTime now q) hsome hover hmin'
    rw [hframe]
    exact ⟨hreceived.acc, hcount, hstamp, rfl⟩
  · have hmin' : q.w.cnt.toNat < q.cfg.minBits := by rw [hreceived.cfg, hcount]; omega
    have hframe := polled_buffer_short now (atTime now q) hsome hover hmin'
    exact hframe.trans hreceived.buffer

end Sys2Proof.Machine
end

section
/-! PROOFS. The motor: the envelope with its bounds, the two-channel command of each state, and `M.WRITE`
(41_motor_ramp.md R140 to R148). -/

namespace Sys2Proof.Machine

open Sys2Proof.Claims

/-! ### The envelope -/

theorem ramp_isEnvelope (c : Cfg) (e target : Nat) : IsEnvelope c e target (ramp c e target) := by
  refine ⟨ramp_breakaway c e target, ramp_window c e target, fun hfull hwindow habove => ?_, ramp_steady c e target⟩
  simp [ramp, hfull.not_gt, hwindow, habove.not_ge]

/-- Inside the window the envelope has fallen by less than the whole way to the target. -/
theorem rampFall_lt (c : Cfg) (e target : Nat) (ht : target < c.breakawayDuty) (hfull : c.fullPowerMs ≤ e)
    (hwindow : e < c.fullPowerMs + c.rampMs) :
    (c.breakawayDuty - target) * (e - c.fullPowerMs) / c.rampMs < c.breakawayDuty - target :=
  (Nat.div_lt_iff_lt_mul (by omega)).mpr (Nat.mul_lt_mul_of_pos_left (by omega) (by omega))

theorem lt_ramp_of_window (c : Cfg) (e target : Nat) (ht : target < c.breakawayDuty) (hfull : c.fullPowerMs ≤ e)
    (hwindow : e < c.fullPowerMs + c.rampMs) : target < ramp c e target := by
  have hfall := rampFall_lt c e target ht hfull hwindow
  rw [ramp_window c e target hfull hwindow ht.le]
  omega

theorem ramp_antitone_of_window (c : Cfg) (e e' target : Nat) (ht : target < c.breakawayDuty)
    (hfull : c.fullPowerMs ≤ e) (hle : e ≤ e') (hwindow : e' < c.fullPowerMs + c.rampMs) :
    ramp c e' target ≤ ramp c e target := by
  rw [ramp_window c e target hfull (hle.trans_lt hwindow) ht.le,
    ramp_window c e' target (hfull.trans hle) hwindow ht.le]
  exact Nat.sub_le_sub_left (Nat.div_le_div_right (Nat.mul_le_mul_left _ (Nat.sub_le_sub_right hle _))) _

theorem ramp_zero (c : Cfg) (target : Nat) (ht : target < c.breakawayDuty) (hpos : 0 < c.fullPowerMs + c.rampMs) :
    ramp c 0 target = c.breakawayDuty := by
  rcases Nat.eq_zero_or_pos c.fullPowerMs with hzero | hfull
  · rw [ramp_window c 0 target hzero.le hpos ht.le]
    simp
  · exact ramp_breakaway c 0 target hfull

/-- The share of a distance `d` that the window has covered is at most `d`. -/
theorem windowShare_le (c : Cfg) (e d : Nat) (hwindow : e < c.fullPowerMs + c.rampMs) :
    d * (e - c.fullPowerMs) / c.rampMs ≤ d :=
  Nat.div_le_of_le_mul (by rw [Nat.mul_comm]; exact Nat.mul_le_mul_right d (by omega))

/-- The envelope stays between the target and the breakaway duty (41_motor_ramp.md R141). -/
theorem ramp_mem_Icc (c : Cfg) (e target : Nat) (ht : target ≤ c.breakawayDuty) :
    target ≤ ramp c e target ∧ ramp c e target ≤ c.breakawayDuty := by
  rcases Nat.lt_or_ge e c.fullPowerMs with hfull | hfull
  · rw [ramp_breakaway c e target hfull]
    exact ⟨ht, le_rfl⟩
  · rcases Nat.lt_or_ge e (c.fullPowerMs + c.rampMs) with hwindow | hsteady
    · have hfall := Nat.add_le_of_le_sub' ht (windowShare_le c e (c.breakawayDuty - target) hwindow)
      rw [ramp_window c e target hfull hwindow ht]
      exact ⟨Nat.le_sub_of_add_le hfall, Nat.sub_le _ _⟩
    · rw [ramp_steady c e target hsteady]
      exact ⟨le_rfl, ht⟩

/-- Settles O12: the window's bounds, the end points, and the bounds everywhere. -/
theorem rampDecaysMonotonically : Obligations.RampDecaysMonotonically := by
  refine fun c target ht => ⟨fun e e' hfull hle hwindow => ⟨?_, ?_, ?_⟩, ramp_zero c target ht, fun hnone => ?_, ?_,
    fun e => ramp_mem_Icc c e target ht.le⟩
  · exact ramp_antitone_of_window c e e' target ht hfull hle hwindow
  · exact lt_ramp_of_window c e' target ht (hfull.trans hle) hwindow
  · exact (ramp_mem_Icc c e target ht.le).2
  · exact ramp_steady c 0 target hnone.le
  · exact ramp_steady c _ target le_rfl

/-- The envelope rises to a target above the breakaway duty and not beyond it (41_motor_ramp.md R140). -/
theorem ramp_le_of_breakaway_lt (c : Cfg) (e target : Nat) (ht : c.breakawayDuty < target) :
    ramp c e target ≤ target := by
  obtain ⟨hbreakaway, -, hrising, hsteady⟩ := ramp_isEnvelope c e target
  rcases Nat.lt_or_ge e c.fullPowerMs with hfull | hfull
  · exact hbreakaway hfull ▸ ht.le
  · rcases Nat.lt_or_ge e (c.fullPowerMs + c.rampMs) with hwindow | hover
    · rw [hrising hfull hwindow ht]
      exact Nat.add_le_of_le_sub' ht.le (windowShare_le c e (target - c.breakawayDuty) hwindow)
    · exact (hsteady hover).le

theorem ramp_le (c : Cfg) (e target bound : Nat) (hb : c.breakawayDuty ≤ bound) (ht : target ≤ bound) :
    ramp c e target ≤ bound := by
  rcases Nat.lt_or_ge c.breakawayDuty target with habove | hbelow
  · exact (ramp_le_of_breakaway_lt c e target habove).trans ht
  · exact (ramp_mem_Icc c e target hbelow).2.trans hb

/-- Settles O11: the envelope never exceeds its two duties, so it fits the register. -/
theorem rampFollowsEnvelope : Obligations.RampFollowsEnvelope := by
  intro s hb
  have hfits := ramp_le s.cfg s.ports.elapsed s.ports.target.toNat 255 hb (Nat.le_of_lt_succ s.ports.target.isLt)
  refine ⟨_, exec_mRamp s, ?_⟩
  rw [toDuty_toNat _ hfits]
  exact ramp_isEnvelope s.cfg s.ports.elapsed s.ports.target.toNat

/-! ### The command of each state -/

theorem duties_of_wf {c : Cfg} (h : c.wf = true) :
    c.breakawayDuty ≤ 255 ∧ c.dutyOpen < c.breakawayDuty ∧ c.dutyClose < c.breakawayDuty := by
  obtain ⟨hduties, hhighest, -⟩ := c.wf_iff.mp h
  obtain ⟨hbreakaway, -⟩ := c.dutiesInRange_iff.mp hduties
  exact ⟨hbreakaway, c.breakawayHighest_iff.mp hhighest⟩

theorem toDuty_ramp_isEnvelope (c : Cfg) (e target : Nat) (hb : c.breakawayDuty ≤ 255) (ht : target < c.breakawayDuty) :
    IsEnvelope c e target (toDuty (ramp c e target)).toNat := by
  rw [toDuty_toNat _ ((ramp_mem_Icc c e target ht.le).2.trans hb)]
  exact ramp_isEnvelope c e target

theorem command_isCommand (c : Cfg) (g : DoorState) (e : Nat) (h : c.wf = true) : IsCommand c g e (command c g e) := by
  obtain ⟨hb, hopen, hclose⟩ := duties_of_wf h
  have hbrake := brakeCommand_toNat c h
  cases g with
  | openingToParcel | openingToMail => exact ⟨toDuty_ramp_isEnvelope c e _ hb hopen, rfl⟩
  | locking => exact ⟨rfl, toDuty_ramp_isEnvelope c e _ hb hclose⟩
  | _ => exact hbrake

/-- Settles O13: a code of the nine states gives that state's command, any other is refused. -/
theorem commandOfEachState : Obligations.CommandOfEachState := by
  refine ⟨fun s g hwf hcode => ?_, exec_mCmd_reserved⟩
  have hdoor : doorOfCode s.ports.stateCode = some g := hcode ▸ doorOfCode_doorCode g
  exact ⟨_, exec_mCmd s g hdoor, command_isCommand s.cfg g s.ports.elapsed hwf⟩

/-- Settles O14: `M.WRITE` writes the command of `STATE`. -/
theorem motorWriteFollowsState : Obligations.MotorWriteFollowsState :=
  fun s hwf => ⟨_, exec_mWrite s, command_isCommand s.cfg s.door _ hwf⟩

theorem isMotorDriving_eq_false_iff (g : DoorState) :
    isMotorDriving g = false ↔ g ≠ .openingToParcel ∧ g ≠ .openingToMail ∧ g ≠ .locking := by
  cases g <;> simp [isMotorDriving]

/-- Settles O15: a command is the brake, or has a channel at 0 and so is not (255, 255). -/
theorem motorNeverDrivesBothChannels : Obligations.MotorNeverDrivesBothChannels := by
  intro s hwf hbrake
  refine ⟨_, exec_mWrite s, ?_⟩
  rw [writeMotor_pwm, ← isMotorDriving_eq_false_iff]
  rcases command_cases s.cfg s.door (s.ports.now - s.motorAt) with ⟨hrests, hcommand⟩ | ⟨hdrives, hchannel⟩
  · have hfull : brakeCommand s.cfg = ⟨255#8, 255#8⟩ := by rw [brakeCommand, hbrake]; rfl
    rw [hcommand, hfull, hrests]
    exact ⟨.inl rfl, fun _ => rfl, fun _ => rfl⟩
  · refine ⟨.inr hchannel, fun hfull => ?_, fun hrests => ?_⟩
    · rw [hfull] at hchannel
      exact absurd hchannel (by decide)
    · rw [hdrives] at hrests
      cases hrests

end Sys2Proof.Machine
end

section
/-! PROOFS. The melody: `S.START` and a whole playback (43_melody_sequencer.md R200 to R207). -/

namespace Sys2Proof.Machine

open Sys2Proof.Claims

/-- Settles O16: the model's lookup and start are those of R200 and R202. -/
theorem startLatchesMelody : Obligations.StartLatchesMelody := by
  intro s
  rw [exec_sStart, startMelody, startPlayer_eq_startedPlayer, lookupMelody_eq_chosenMelody]

/-- What an advancing tick does to a melody that plays note `i` (43_melody_sequencer.md R204). -/
theorem tickPlayer_advances (now : Nat) (p : Player) (hplays : p.playing = true)
    (hover : noteWindowOver p now = true) :
    (tickPlayer now p).mel = p.mel ∧ (tickPlayer now p).index = p.index + 1 ∧
      (p.index + 1 < p.mel.notes.length → (tickPlayer now p).playing = true) ∧
      (p.mel.notes.length ≤ p.index + 1 → (tickPlayer now p).playing = false ∧ (tickPlayer now p).buz = .silent) := by
  rcases tickPlayer_cases now p with ⟨hstay, -⟩ | ⟨-, -, n, hnote, heq⟩ | ⟨-, -, hend, heq⟩
  · simp [hplays, hover] at hstay
  · have hinside := memRead_eq_some p.mel (p.index + 1) n hnote
    rw [heq]
    exact ⟨rfl, rfl, fun _ => rfl, fun hpast => absurd hinside hpast.not_gt⟩
  · have hpast : p.mel.notes.length ≤ p.index + 1 := List.getElem?_eq_none_iff.mp hend
    rw [heq]
    exact ⟨rfl, rfl, fun hinside => absurd hinside hpast.not_gt, fun _ => ⟨rfl, rfl⟩⟩

theorem runMelodyTicks_cons (t : Nat) (ts : List Nat) (s : State) :
    runMelodyTicks (t :: ts) s = runMelodyTicks ts (tickMelody t (atTime t s)) := rfl

theorem eachPastWindow_cons (t : Nat) (ts : List Nat) (s : State) (h : eachPastWindow (t :: ts) s) :
    noteWindowOver s.player t = true ∧ eachPastWindow ts (tickMelody t (atTime t s)) := by
  obtain ⟨hover, hrest⟩ := h
  exact ⟨(noteWindowOver_iff s.player t).mpr hover, hrest _ (exec_sTick (atTime t s))⟩

/-- A playback from any note on: the cursor goes on by one at each tick, up to the end. -/
theorem runMelodyTicks_plays (ts : List Nat) (s : State) (hplays : s.player.playing = true)
    (hinside : s.player.index < s.player.mel.notes.length)
    (hfits : s.player.index + ts.length ≤ s.player.mel.notes.length) (hpast : eachPastWindow ts s) :
    ∃ u, runMelodyTicks ts s = some u ∧ u.player.mel = s.player.mel ∧
      u.player.index = s.player.index + ts.length ∧
      (u.player.playing = true ↔ s.player.index + ts.length < s.player.mel.notes.length) ∧
      (s.player.index + ts.length = s.player.mel.notes.length → u.player.buz = .silent) := by
  induction ts generalizing s with
  | nil => exact ⟨s, rfl, rfl, rfl, ⟨fun _ => hinside, fun _ => hplays⟩, fun hend => absurd hend hinside.ne⟩
  | cons t ts ih =>
    obtain ⟨hover, hrest⟩ := eachPastWindow_cons t ts s hpast
    obtain ⟨hmel, hindex, hgoes, hends⟩ := tickPlayer_advances t s.player hplays hover
    rw [List.length_cons] at hfits ⊢
    rw [runMelodyTicks_cons]
    rcases Nat.lt_or_ge (s.player.index + 1) s.player.mel.notes.length with hmore | hlast
    · have hnext := ih (tickMelody t (atTime t s)) (hgoes hmore)
        (by simpa [atTime, hmel, hindex] using hmore) (by simp [atTime, hmel, hindex]; omega) hrest
      have hshift : s.player.index + (ts.length + 1) = s.player.index + 1 + ts.length := by omega
      rw [hshift]
      simpa [atTime, hmel, hindex] using hnext
    · obtain ⟨hstops, hsilent⟩ := hends hlast
      obtain rfl : ts = [] := List.eq_nil_of_length_eq_zero (by omega)
      exact ⟨_, rfl, hmel, hindex, ⟨fun hstill => absurd hstill (Bool.eq_false_iff.mp hstops),
        fun hmore => absurd hmore hlast.not_gt⟩, fun _ => hsilent⟩

/-- Settles O19: the playback from the first note. -/
theorem melodyPlaysEveryNote : Obligations.MelodyPlaysEveryNote := by
  intro s ts hplays hfirst hfits hnotes hpast
  have hinside : s.player.index < s.player.mel.notes.length := hfirst ▸ List.length_pos_iff.mpr hnotes
  have hplayback := runMelodyTicks_plays ts s hplays hinside (by omega) hpast
  simpa [hfirst] using hplayback

end Sys2Proof.Machine
end

section
/-! PROOFS. The door: `SM.ENTER`, the requests, `SM.SWITCH` and `SM.CRED` in the words of the statements
(42_door_state_machine.md R160 to R180). -/

namespace Sys2Proof.Machine

open Sys2Proof.Claims

/-! ### `SM.ENTER` and the requests -/

/-- Settles O20: a code of the nine states is entered, any other is refused. -/
theorem enterPerformsTransition : Obligations.EnterPerformsTransition := by
  refine ⟨fun s g hcode => ?_, exec_smEnter_reserved⟩
  rw [exec_smEnter s g (hcode ▸ doorOfCode_doorCode g), enter_eq_entered]

theorem isOpen_iff (g : DoorState) : isOpen g = true ↔ g = .parcelOpen ∨ g = .mailOpen := by
  cases g <;> simp [isOpen]

/-- Settles O23: the word is its row's, and `REQ_CLOSE` is accepted in the open states. -/
theorem closeOnlyWhenOpen : Obligations.CloseOnlyWhenOpen := by
  refine ⟨Laws.EncodesToItsRow.reqClose.2, rfl, fun s => ⟨fun hopen => ?_, fun hparcel hmail => ?_⟩⟩
  · rw [exec_reqClose, closeRequest_open _ s ((isOpen_iff _).mpr hopen), enter_eq_entered]
  · have hclosed : isOpen s.door = false :=
      Bool.eq_false_iff.mpr fun hopen => ((isOpen_iff _).mp hopen).elim hparcel hmail
    rw [exec_reqClose, closeRequest_ignored _ s hclosed, raise_eq_withRaised]

theorem exec_openRequest (i : Instr) (s : State) (h : i = .reqOpenParcel ∨ i = .reqOpenMail) :
    ∃ k, exec i s = .next (openRequest k s.ports.label s.ports.now s) := by
  rcases h with rfl | rfl
  · exact ⟨.parcel, rfl⟩
  · exact ⟨.mail, rfl⟩

/-- Settles O24: an accepted request leaves `Locked`, where alone a second one is accepted. -/
theorem secondOpenRequestIgnored : Obligations.SecondOpenRequestIgnored := by
  intro s i j l now hlocked hi hj
  obtain ⟨k, hfirst⟩ := exec_openRequest i s hi
  rw [openRequest_locked k _ _ s hlocked] at hfirst
  refine ⟨_, hfirst, rfl, ?_⟩
  obtain ⟨k', hsecond⟩ := exec_openRequest j _ hj
  rw [hsecond, openRequest_eq_withRaised]
  exact preOpening_ne_locked k

theorem openRequest_eq_requested (k : Kind) (l : Label) (now : Nat) (s : State) :
    openRequest k l now s = requested (preOpening k) l now s := by
  by_cases hd : s.door = .locked
  · rw [requested, if_pos hd, openRequest_eq_opened k l now s hd]
  · rw [requested, if_neg hd, openRequest_eq_withRaised k l now s hd]

/-! ### `SM.SWITCH` -/

/-- The maintenance of `NOSW_SINCE` in the words of the statements (42_door_state_machine.md R178). -/
theorem nextNosw_anyEngaged (d : Conditioning) (now : Nat) (since : Option Nat) :
    nextNosw (anyEngaged d) now since =
      if d.closed.out = true ∨ d.parcel.out = true ∨ d.mail.out = true then none else some (since.getD now) := by
  simp [nextNosw, anyEngaged, or_assoc]

theorem recordNosw_eq (now : Nat) (s : State) :
    recordNosw now s =
      { s with
        noswSince :=
          if s.db.closed.out = true ∨ s.db.parcel.out = true ∨ s.db.mail.out = true then none
          else some (s.noswSince.getD now) } := by
  rw [recordNosw, nextNosw_anyEngaged]

theorem switchTransition_openingToParcel (now : Nat) (s : State) (h : s.door = .openingToParcel) :
    switchTransition now s = if s.db.parcel.out = true then entered .parcelOpen now s else s := by
  simp only [switchTransition, h, enter_eq_entered]

theorem switchTransition_openingToMail (now : Nat) (s : State) (h : s.door = .openingToMail) :
    switchTransition now s = if s.db.mail.out = true then entered .mailOpen now s else s := by
  simp only [switchTransition, h, enter_eq_entered]

theorem switchTransition_locking (now : Nat) (s : State) (h : s.door = .locking) :
    switchTransition now s = if s.db.closed.out = true then entered .locked now s else s := by
  simp only [switchTransition, h, enter_eq_entered]

theorem switchTransition_elsewhere (now : Nat) (s : State) (h : isMotorDriving s.door = false) :
    switchTransition now s = s := by
  rcases switchTransition_cases now s with heq | ⟨g, -, ⟨hd, -⟩ | ⟨hd, -⟩ | ⟨hd, -⟩⟩
  · exact heq
  all_goals
    rw [hd] at h
    cases h

/-- Settles O26: one equation for each state that looks at a switch, and one for the others. -/
theorem switchTransitionsOfEachState : Obligations.SwitchTransitionsOfEachState := by
  refine fun s => ⟨_, rfl, ?_⟩
  rw [← recordNosw_eq, exec_smSwitch, switches]
  refine ⟨fun hd => ?_, fun hd => ?_, fun hd => ?_, fun hparcel hmail hlocking => ?_⟩
  · rw [switchTransition_openingToParcel _ (recordNosw _ s) hd, recordNosw_db]
  · rw [switchTransition_openingToMail _ (recordNosw _ s) hd, recordNosw_db]
  · rw [switchTransition_locking _ (recordNosw _ s) hd, recordNosw_db]
  · have hother := (isMotorDriving_eq_false_iff s.door).mpr ⟨hparcel, hmail, hlocking⟩
    rw [switchTransition_elsewhere _ (recordNosw _ s) hother]

/-! ### A series of `SM.SWITCH` samples -/

/-- `s` at time `t` with `l` as the conditioned levels. -/
def withSample (l : Levels) (t : Nat) (s : State) : State :=
  atTime t
    { s with
      db :=
        ⟨{ s.db.closed with out := l.closed }, { s.db.parcel with out := l.parcel }, { s.db.mail with out := l.mail }⟩ }

/-- Some level reads engaged. -/
def Levels.engaged (l : Levels) : Bool := l.closed || l.parcel || l.mail

theorem switches_noswSince (now : Nat) (s : State) :
    (switches now s).noswSince = nextNosw (anyEngaged s.db) now s.noswSince := by
  obtain ⟨_, _, _, _, heq⟩ := switches_frame now s
  rw [heq]

theorem runSamples_cons (x : Levels × Nat) (xs : List (Levels × Nat)) (s : State) :
    runSamples (x :: xs) s = runSamples xs (switches x.2 (withSample x.1 x.2 s)) := rfl

theorem runSamples_concat (xs : List (Levels × Nat)) (x : Levels × Nat) (s u : State)
    (h : runSamples xs s = some u) : runSamples (xs ++ [x]) s = some (switches x.2 (withSample x.1 x.2 u)) := by
  induction xs generalizing s with
  | nil =>
    cases h
    rw [List.nil_append, runSamples_cons]
    rfl
  | cons y ys ih => exact ih _ h

/-- A sample ends the quiet series, goes on with it, or starts it (10_state.md R29). -/
theorem quietSince_concat (xs : List (Levels × Nat)) (x : Levels × Nat) :
    quietSince (xs ++ [x]) = nextNosw x.1.engaged x.2 (quietSince xs) := by
  unfold quietSince nextNosw
  rw [List.reverse_append, List.reverse_singleton, List.singleton_append, List.takeWhile_cons]
  cases hx : x.1.engaged <;> rw [Levels.engaged] at hx <;> rw [hx]
  · simp only [Bool.not_false, if_true, List.getLast?_cons]
    cases (List.takeWhile _ xs.reverse).getLast? <;> rfl
  · rfl

theorem runSamples_noswSince (xs : List (Levels × Nat)) (s : State) (h : s.noswSince = none) :
    ∃ u, runSamples xs s = some u ∧ u.noswSince = quietSince xs := by
  induction xs using List.reverseRecOn with
  | nil => exact ⟨s, rfl, h⟩
  | append_singleton xs x ih =>
    obtain ⟨u, hrun, hquiet⟩ := ih
    refine ⟨_, runSamples_concat xs x s u hrun, ?_⟩
    rw [switches_noswSince, quietSince_concat, ← hquiet]
    rfl

/-- Settles O27: by induction on the samples from the last one. -/
theorem noSwitchSinceFirstQuietSample : Obligations.NoSwitchSinceFirstQuietSample :=
  runSamples_noswSince

/-! ### `SM.CRED` -/

theorem authAnswer_noMatch (a : AuthWord) (h : a.code = 0#2) : authAnswer a = some .noMatch := by
  simp [authAnswer, h]

theorem authAnswer_owner (a : AuthWord) (h : a.code = 1#2) : authAnswer a = some (.owner a.label) := by
  simp [authAnswer, h]

theorem authAnswer_delivery (a : AuthWord) (h : a.code = 2#2) : authAnswer a = some (.delivery a.label) := by
  simp [authAnswer, h]

theorem takeAndAuthorize_empty (now : Nat) (auth : AuthWord) (s : State) (h : s.f.avail = false) :
    takeAndAuthorize now auth s = .next s := by
  simp [takeAndAuthorize, take_none s h]

theorem takeAndAuthorize_answer (now : Nat) (auth : AuthWord) (s : State) (a : AuthAnswer) (h : s.f.avail = true)
    (ha : authAnswer auth = some a) :
    takeAndAuthorize now auth s =
      .next (applyAuth a ⟨s.f.code, s.f.bits, s.f.at_⟩ now (frameRead ⟨s.f.code, s.f.bits⟩ s)) := by
  simp [takeAndAuthorize, take_some s h, ha, frameRead]

theorem takeAndAuthorize_reserved (now : Nat) (auth : AuthWord) (s : State) (h : s.f.avail = true)
    (ha : authAnswer auth = none) : takeAndAuthorize now auth s = .refused .reservedAuthCode := by
  simp [takeAndAuthorize, take_some s h, ha]

/-- What follows the poll of `SM.CRED` is the taking and the answer of 42_door_state_machine.md R180. -/
theorem takeAndAuthorize_isAnswered (now : Nat) (auth : AuthWord) (s : State) :
    IsAnswered auth now s (takeAndAuthorize now auth s) := by
  refine ⟨takeAndAuthorize_empty now auth s, ?_⟩
  rintro havail u rfl
  refine ⟨fun hcode => ?_, fun hcode => ?_, fun hcode => ?_, fun hcode => ?_⟩
  · rw [takeAndAuthorize_answer now auth s _ havail (authAnswer_noMatch auth hcode)]
    rfl
  · rw [takeAndAuthorize_answer now auth s _ havail (authAnswer_owner auth hcode), applyAuth, openRequest_eq_requested]
    rfl
  · rw [takeAndAuthorize_answer now auth s _ havail (authAnswer_delivery auth hcode), applyAuth,
      openRequest_eq_requested]
    rfl
  · exact takeAndAuthorize_reserved now auth s havail ((authAnswer_eq_none auth).mpr hcode)

theorem requested_locked (g : DoorState) (l : Label) (now : Nat) (s : State) (h : s.door = .locked) :
    requested g l now s = opened g l now s :=
  if_pos h

theorem polled_door (now : Nat) (s : State) : (polled now s).door = s.door := by
  obtain ⟨_, _, _, heq⟩ := pollCommit_frame (pollSnap now s) s
  rw [← poll_eq_polled, poll, heq]

/-- Settles O28: outside `Locked` nothing, with a split poll its first half, else the poll, the taking, the answer. -/
theorem credentialHandledOnlyWhenLocked : Obligations.CredentialHandledOnlyWhenLocked := by
  refine fun s => ⟨cred_elsewhere _ _ s, fun hlocked hsplit => ?_, ?_⟩
  · rw [exec_smCred, cred_locked_split _ _ s hlocked hsplit, openPoll, pollSnap_eq_snapshot]
  rintro hlocked hatomic t rfl
  rw [exec_smCred, cred_locked_atomic _ _ s hlocked hatomic, poll_eq_polled]
  obtain ⟨hempty, hfull⟩ := takeAndAuthorize_isAnswered s.ports.now s.ports.auth (polled s.ports.now s)
  refine ⟨hempty, ?_⟩
  intro havail u hu
  obtain ⟨hnoMatch, howner, hdelivery, hreserved⟩ := hfull havail u hu
  have hd : u.door = .locked := by
    rw [hu]
    exact (polled_door s.ports.now s).trans hlocked
  refine ⟨hnoMatch, fun hcode => ?_, fun hcode => ?_, hreserved⟩
  · rw [howner hcode, requested_locked _ _ _ u hd]
  · rw [hdelivery hcode, requested_locked _ _ _ u hd]

end Sys2Proof.Machine
end

section
/-! PROOFS. The poll in two halves: without an edge in between it is the atomic poll, and an edge in between is lost
(44_tick_and_sync.md R228). -/

namespace Sys2Proof.Machine

open Sys2Proof.Claims

/-! ### The inputs that only the start of an operation reads -/

/-- `s` with `POLL_ATOMIC` set to `b` and the ports `p`. -/
def withInputs (b : Bool) (p : Ports) (s : State) : State :=
  { s with cfg := { s.cfg with pollAtomic := b }, ports := p }

/-- The same outcome with `f` applied to the next state. -/
def mapNext (f : State → State) : Host.Outcome State Fault Refusal → Host.Outcome State Fault Refusal
  | .next t => .next (f t)
  | .fault r => .fault r
  | .refused r => .refused r

theorem withInputs_ports_eq_withPollAtomic (b : Bool) (s : State) : withInputs b s.ports s = withPollAtomic b s := rfl

theorem pollCommit_withInputs (b : Bool) (p : Ports) (q : PollSnap) (s : State) :
    pollCommit q (withInputs b p s) = withInputs b p (pollCommit q s) := by
  cases hgo : q.go
  · rw [pollCommit_stay q s hgo, pollCommit_stay q _ hgo]
  · by_cases hlong : s.cfg.minBits ≤ q.cnt.toNat
    · rw [pollCommit_publish q s hgo hlong, pollCommit_publish q (withInputs b p s) hgo hlong]
      rfl
    · rw [pollCommit_short q s hgo hlong, pollCommit_short q (withInputs b p s) hgo hlong]
      rfl

theorem openRequest_withInputs (b : Bool) (p : Ports) (k : Kind) (l : Label) (now : Nat) (s : State) :
    openRequest k l now (withInputs b p s) = withInputs b p (openRequest k l now s) := by
  by_cases hd : s.door = .locked
  · rw [openRequest_locked k l now s hd, openRequest_locked k l now (withInputs b p s) hd]
    rfl
  · rw [openRequest_ignored k l now s hd, openRequest_ignored k l now (withInputs b p s) hd]
    rfl

theorem applyAuth_withInputs (b : Bool) (p : Ports) (a : AuthAnswer) (fr : Frame) (now : Nat) (s : State) :
    applyAuth a fr now (withInputs b p s) = withInputs b p (applyAuth a fr now s) := by
  cases a with
  | noMatch => rfl
  | owner l => exact openRequest_withInputs b p .mail l now s
  | delivery l => exact openRequest_withInputs b p .parcel l now s

theorem takeAndAuthorize_withInputs (b : Bool) (p : Ports) (now : Nat) (auth : AuthWord) (s : State) :
    takeAndAuthorize now auth (withInputs b p s) = mapNext (withInputs b p) (takeAndAuthorize now auth s) := by
  cases havail : s.f.avail
  · rw [takeAndAuthorize_empty now auth s havail, takeAndAuthorize_empty now auth (withInputs b p s) havail, mapNext]
  · cases ha : authAnswer auth with
    | none =>
      rw [takeAndAuthorize_reserved now auth s havail ha,
        takeAndAuthorize_reserved now auth (withInputs b p s) havail ha, mapNext]
    | some a =>
      rw [takeAndAuthorize_answer now auth s a havail ha,
        takeAndAuthorize_answer now auth (withInputs b p s) a havail ha, mapNext, ← applyAuth_withInputs]
      rfl

theorem takeAndAuthorize_completes (now : Nat) (auth : AuthWord) (s : State) (h : auth.code ≠ 3#2) :
    ∃ t, takeAndAuthorize now auth s = .next t := by
  rcases takeAndAuthorize_cases now auth s with ⟨-, heq⟩ | ⟨-, _, -, heq⟩ | ⟨-, hreserved, -⟩
  · exact ⟨_, heq⟩
  · exact ⟨_, heq⟩
  · exact absurd ((authAnswer_eq_none auth).mp hreserved) h

/-! ### The step that completes an open poll -/

theorem isEdge_iff (i : Instr) : isEdge i = true ↔ i = .edge0 ∨ i = .edge1 := by
  cases i <;> simp [isEdge]

theorem fallsInPoll_iff (e : Event) : fallsInPoll e = true ↔ InsidePoll e := by
  unfold fallsInPoll InsidePoll
  cases hd : decodeWord e.word with
  | ok i => simp [isEdge_iff]
  | error r => simp

theorem step_completesPoll (s : State) (p : PollWindow) (hw : s.window = some p)
    (hhead : ∀ x ∈ s.inbox.head?, ¬ InsidePoll x) : step s = closePoll p s :=
  step_closePoll s p (agenda_closePoll s p hw fun x hx => Bool.eq_false_iff.mpr fun hfalls =>
    hhead x hx ((fallsInPoll_iff x).mp hfalls))

theorem closePoll_alone (p : PollWindow) (s : State) (h : p.caller = .alone) :
    closePoll p s = .next (pollCommit p.snap { s with window := none }) := by
  rw [closePoll, h]

theorem closePoll_cred (p : PollWindow) (s : State) (h : p.caller = .cred) :
    closePoll p s = takeAndAuthorize p.now p.auth (pollCommit p.snap { s with window := none }) := by
  rw [closePoll, h]

/-- Without an edge in between, the second half finds the state that the first half saw. -/
theorem closeWindow_openPoll (k : PollCaller) (now : Nat) (auth : AuthWord) (s : State) (hw : s.window = none) :
    { openPoll k now auth s with window := none } = s := by
  rw [openPoll, ← hw]

theorem step_openPoll_alone (now : Nat) (auth : AuthWord) (s : State) (hw : s.window = none)
    (hhead : ∀ x ∈ s.inbox.head?, ¬ InsidePoll x) : step (openPoll .alone now auth s) = .next (poll now s) := by
  rw [step_completesPoll (openPoll .alone now auth s) _ rfl hhead,
    closePoll_alone _ _ rfl, closeWindow_openPoll _ _ _ s hw, poll]

theorem step_openPoll_cred (now : Nat) (auth : AuthWord) (s : State) (hw : s.window = none)
    (hhead : ∀ x ∈ s.inbox.head?, ¬ InsidePoll x) :
    step (openPoll .cred now auth s) = takeAndAuthorize now auth (poll now s) := by
  rw [step_completesPoll (openPoll .cred now auth s) _ rfl hhead,
    closePoll_cred _ _ rfl, closeWindow_openPoll _ _ _ s hw, poll]

theorem poll_withPollAtomic (b : Bool) (now : Nat) (s : State) :
    poll now (withPollAtomic b s) = withPollAtomic b (poll now s) := by
  have hports : (poll now s).ports = s.ports := by
    obtain ⟨_, _, _, heq⟩ := pollCommit_frame (pollSnap now s) s
    rw [poll, heq]
  rw [← withInputs_ports_eq_withPollAtomic b (poll now s), hports]
  exact pollCommit_withInputs b s.ports (pollSnap now s) s

theorem takeAndAuthorize_withPollAtomic (b : Bool) (now : Nat) (auth : AuthWord) (s t : State)
    (h : takeAndAuthorize now auth s = .next t) :
    takeAndAuthorize now auth (withPollAtomic b s) = .next (withPollAtomic b t) := by
  obtain ⟨-, hports, -⟩ := (keptByParts_hasInputs s.cfg s.ports s.inbox).takeAndAuthorize now auth s ⟨rfl, rfl, rfl⟩ t h
  rw [← withInputs_ports_eq_withPollAtomic, ← withInputs_ports_eq_withPollAtomic, takeAndAuthorize_withInputs, h,
    hports, mapNext]

/-- Settles O6: the second half does the whole poll on the state before the first, in which `POLL_ATOMIC` shows only
as itself. -/
theorem splitPollWithoutEdgeIsAtomic : Obligations.SplitPollWithoutEdgeIsAtomic := by
  intro s hsplit hw hhead
  have hkept := keptByParts_hasInputs s.cfg s.ports s.inbox
  have hpolled : HasInputs s.cfg s.ports s.inbox (poll s.ports.now s) := hkept.pollCommit _ s ⟨rfl, rfl, rfl⟩
  have hinboxKept : (poll s.ports.now s).inbox = s.inbox := hpolled.2.2
  refine ⟨⟨_, _, exec_wPoll_split s hsplit, step_openPoll_alone _ _ s hw hhead, hinboxKept, ?_⟩,
    fun hlocked hcode => ?_⟩
  · rw [exec_wPoll_atomic (withPollAtomic true s) rfl, ← poll_withPollAtomic]
    rfl
  · obtain ⟨u, hu⟩ := takeAndAuthorize_completes s.ports.now s.ports.auth (poll s.ports.now s) hcode
    obtain ⟨-, -, hinbox⟩ := hkept.takeAndAuthorize _ _ _ hpolled u hu
    refine ⟨_, u, cred_locked_split _ _ s hlocked hsplit, ?_, hinbox, ?_⟩
    · rw [step_openPoll_cred _ _ s hw hhead, hu]
    · rw [exec_smCred, cred_locked_atomic _ _ (withPollAtomic true s) hlocked rfl, poll_withPollAtomic]
      exact takeAndAuthorize_withPollAtomic true _ _ _ u hu

/-! ### An edge between the halves -/

theorem acceptEvent_ok (e : Event) (s : State) (i : Instr) (hd : decodeWord e.word = .ok i)
    (hm : mayPerform e.source i = true) (hlater : s.ports.now ≤ e.ports.now) : acceptEvent e s = .ok i := by
  simp [acceptEvent, hd, hm, hlater]

theorem agenda_edgeInPoll (s : State) (p : PollWindow) (e : Event) (rest : List Event) (hw : s.window = some p)
    (hi : s.inbox = e :: rest) (he : InsidePoll e) : agenda s = .perform e rest := by
  simp [agenda, hw, hi, (fallsInPoll_iff e).mpr he]

theorem decodeWord_edgeWord (b : Bool) :
    decodeWord (if b then 0x01#8 else 0x00#8) = .ok (if b then .edge1 else .edge0) := by
  cases b <;> rfl

/-- The step of an edge that the interrupt agent presents inside an open poll. -/
theorem step_edgeInPoll (s : State) (p : PollWindow) (e : Event) (rest : List Event) (b : Bool)
    (hw : s.window = some p) (hi : s.inbox = e :: rest) (hduring : e.duringPoll = true)
    (hword : e.word = if b then 0x01#8 else 0x00#8) (hsource : e.source = .irq) (hlater : s.ports.now ≤ e.ports.now) :
    step s = .next (edge b e.ports.now (present e rest s)) := by
  have hdecode : decodeWord e.word = .ok (if b then .edge1 else .edge0) := hword ▸ decodeWord_edgeWord b
  have hinside : InsidePoll e := ⟨hduring, by cases b <;> simp [hdecode]⟩
  have hown : mayPerform e.source (if b then .edge1 else .edge0) = true := by rw [hsource]; cases b <;> rfl
  rw [step_perform s e rest _ (agenda_edgeInPoll s p e rest hw hi hinside) (acceptEvent_ok e s _ hdecode hown hlater),
    exec_edgeOf]
  rfl

/-- What a finalizing second half writes (40_wiegand_decoder.md R124). -/
theorem pollCommit_finalizes (p : PollSnap) (s : State) (hgo : p.go = true) :
    pollCommit p s =
      { s with
        w := ⟨0#32, 0#8, s.w.last⟩
        f := (pollCommit p s).f
        conditions := (pollCommit p s).conditions } ∧
    (s.cfg.minBits ≤ p.cnt.toNat → (pollCommit p s).f = ⟨p.acc, p.cnt, p.last, true⟩ ∧
      (pollCommit p s).conditions = s.conditions ++ if s.f.avail = true then [.frameOverwrite] else []) ∧
    (p.cnt.toNat < s.cfg.minBits →
      (pollCommit p s).f = s.f ∧ (pollCommit p s).conditions = s.conditions ++ [.shortFrame p.cnt]) := by
  rcases Nat.lt_or_ge p.cnt.toNat s.cfg.minBits with hshort | hlong
  · rw [pollCommit_short p s hgo hshort.not_ge]
    exact ⟨rfl, fun hlong => absurd hshort hlong.not_gt, fun _ => ⟨rfl, rfl⟩⟩
  · rw [pollCommit_publish p s hgo hlong]
    exact ⟨rfl, fun _ => ⟨rfl, rfl⟩, fun hshort => absurd hshort hlong.not_gt⟩

/-- The answer to a frame writes neither the reader's registers and `DIAG` nor the input side. -/
theorem applyAuth_frame (a : AuthAnswer) (fr : Frame) (now : Nat) (s : State) :
    ∃ g at_ l pl n cs, applyAuth a fr now s =
      { s with door := g, phaseAt := at_, attr := l, player := pl, notify := n, conditions := cs } := by
  rcases applyAuth_cases a fr now s with ⟨k, l, heq, -⟩ | ⟨-, heq⟩
  · obtain ⟨_, _, _, _, _, _, hframe, -⟩ := openRequest_frame k l now s
    exact ⟨_, _, _, _, _, _, heq.trans hframe⟩
  · exact ⟨_, _, _, _, _, _, heq⟩

/-- An available frame is taken into `DIAG`, with any answer but the reserved one (42_door_state_machine.md R180). -/
theorem takeAndAuthorize_takes (now : Nat) (auth : AuthWord) (s : State) (havail : s.f.avail = true)
    (hcode : auth.code ≠ 3#2) :
    ∃ u, takeAndAuthorize now auth s = .next u ∧ u.w = s.w ∧ u.diag = ⟨s.f.code, s.f.bits⟩ ∧
      u.f = { s.f with avail := false } ∧ u.window = s.window ∧ u.inbox = s.inbox := by
  cases ha : authAnswer auth with
  | none => exact absurd ((authAnswer_eq_none auth).mp ha) hcode
  | some a =>
    obtain ⟨_, _, _, _, _, _, hframe⟩ :=
      applyAuth_frame a ⟨s.f.code, s.f.bits, s.f.at_⟩ now (frameRead ⟨s.f.code, s.f.bits⟩ s)
    refine ⟨_, takeAndAuthorize_answer now auth s a havail ha, ?_⟩
    rw [hframe]
    exact ⟨rfl, rfl, rfl, rfl, rfl⟩

/-- Settles O5: the edge is counted into the group, which the second half then empties; the frame is the snapshot's. -/
theorem edgeInsideSplitPollIsLost : Obligations.EdgeInsideSplitPollIsLost := by
  intro s p e rest b hw hgo hi hhead hduring hword hsource hlater
  obtain ⟨-, -, hcount, hstamp, hcounted⟩ := edge_shifts b e.ports.now (present e rest s)
  have hfirst := step_edgeInPoll s p e rest b hw hi hduring hword hsource hlater
  generalize edge b e.ports.now (present e rest s) = t at hcount hstamp hcounted hfirst
  have hframe : t = { s with w := t.w, noted := t.noted, inbox := rest, ports := e.ports } := hcounted
  have hwindow : t.window = some p := by rw [hframe]; exact hw
  have hinbox : t.inbox = rest := by rw [hframe]
  have hcfg : t.cfg = s.cfg := by rw [hframe]
  have hbuffer : t.f = s.f := by rw [hframe]
  have hraised : t.conditions = s.conditions := by rw [hframe]
  have hsecond : step t = closePoll p t := step_completesPoll t p hwindow (by rw [hinbox]; exact hhead)
  obtain ⟨hfinal, hlong, hshort⟩ := pollCommit_finalizes p.snap { t with window := none } hgo
  have hclosedAlone := fun halone => hsecond.trans (closePoll_alone p t halone)
  have hclosedCred := fun hcred => hsecond.trans (closePoll_cred p t hcred)
  generalize pollCommit p.snap { t with window := none } = c at hfinal hlong hshort hclosedAlone hclosedCred
  simp only [hcfg, hbuffer, hraised] at hlong hshort
  refine ⟨t, c, hfirst, hcount, hframe, hstamp ▸ hfinal, hlong, hshort, hclosedAlone, fun hcred => ?_⟩
  rw [hclosedCred hcred]
  refine ⟨takeAndAuthorize_isAnswered p.now p.auth c, fun hmin hcode => ?_⟩
  obtain ⟨hframeBuffer, -⟩ := hlong hmin
  obtain ⟨u, hu, huw, hudiag, huf, huwindow, huinbox⟩ :=
    takeAndAuthorize_takes p.now p.auth c (by rw [hframeBuffer]) hcode
  have hcw : c.w = ⟨0#32, 0#8, e.ports.now⟩ := by rw [hfinal, hstamp]
  have hcwindow : c.window = none := by rw [hfinal]
  have hcinbox : c.inbox = rest := by rw [hfinal, hinbox]
  rw [hframeBuffer] at hudiag huf
  exact ⟨u, hu, huw.trans hcw, hudiag, huf, huwindow.trans hcwindow, huinbox.trans hcinbox⟩

end Sys2Proof.Machine
end

section
/-! PROOFS. The switch conditioning: one sample, a tick, and a series of samples (45_switch_debounce.md R240, R241). -/

namespace Sys2Proof.Machine

open Sys2Proof.Claims

/-! ### One sample -/

theorem sampleSwitch_eq_sampled (debounceMs : Nat) (raw : Bool) (now : Nat) (d : Debounce) :
    sampleSwitch debounceMs raw now d = sampled debounceMs raw now d := by
  by_cases hsame : raw = d.raw
  · subst hsame
    simp only [sampleSwitch, sampleRaw, settle, sampled, if_true]
    split <;> rfl
  · simp only [sampleSwitch, sampleRaw, settle, sampled, hsame, if_false]
    split <;> rfl

/-- Settles O37: each switch by itself. -/
theorem sampleConditionsEachSwitch : Obligations.SampleConditionsEachSwitch := by
  intro s
  simp only [exec_dbSample, sampleSwitches, sampleSwitch_eq_sampled]

theorem sampled_raw (debounceMs : Nat) (raw : Bool) (now : Nat) (d : Debounce) :
    (sampled debounceMs raw now d).raw = raw := rfl

theorem sampled_since (debounceMs : Nat) (raw : Bool) (now : Nat) (d : Debounce) :
    (sampled debounceMs raw now d).since = if raw = d.raw then d.since else now := rfl

/-- A raw level that is `DEBOUNCE_MS` old is the conditioned level. -/
theorem sampled_out_of_old (debounceMs : Nat) (raw : Bool) (now : Nat) (d : Debounce)
    (hold : debounceMs ≤ now - (sampled debounceMs raw now d).since) : (sampled debounceMs raw now d).out = raw := by
  rw [sampled_since] at hold
  by_cases hsame : raw = d.out
  · simp [sampled, hsame]
  · simp [sampled, hsame, hold]

/-- A raw level that is not yet `DEBOUNCE_MS` old, or is the conditioned level, changes nothing of it. -/
theorem sampled_out_of_young (debounceMs : Nat) (raw : Bool) (now : Nat) (d : Debounce)
    (hyoung : raw = d.out ∨ now - (sampled debounceMs raw now d).since < debounceMs) :
    (sampled debounceMs raw now d).out = d.out := by
  rw [sampled_since] at hyoung
  rcases hyoung with hsame | hearly
  · simp [sampled, hsame]
  · simp [sampled, hearly]

theorem sampled_out_zero (raw : Bool) (now : Nat) (d : Debounce) : (sampled 0 raw now d).out = raw :=
  sampled_out_of_old 0 raw now d (Nat.zero_le _)

theorem sampleSwitches_zero_out (l : Levels) (now : Nat) (s : State) (h : s.cfg.debounceMs = 0) :
    (sampleSwitches l now s).db.closed.out = l.closed ∧ (sampleSwitches l now s).db.parcel.out = l.parcel ∧
      (sampleSwitches l now s).db.mail.out = l.mail := by
  simp [sampleSwitch_eq_sampled, h, sampled_out_zero]

/-- Of a tick's steps only `DB.SAMPLE` writes the conditioning registers (44_tick_and_sync.md R220). -/
theorem tickFront_db (l : Levels) (now : Nat) (s : State) : (tickFront l now s).db = (sampleSwitches l now s).db := by
  obtain ⟨_, _, _, _, _, htimed⟩ := timed_frame now (sampleSwitches l now s)
  obtain ⟨_, _, _, _, hswitches⟩ :=
    switches_frame now (tickMelody now (writeMotor now (timed now (sampleSwitches l now s))))
  rw [tickFront, hswitches, htimed]
  rfl

theorem exec_tick_db (c p m : Bool) (s t : State) (h : exec (.tick c p m) s = .next t) :
    t.db = (sampleSwitches ⟨c, p, m⟩ s.ports.now s).db := by
  obtain ⟨_, _, _, _, _, _, _, _, _, _, heq, -⟩ := cred_frame _ _ _ t h
  rw [heq]
  exact tickFront_db _ _ s

/-- Settles O38: at `DEBOUNCE_MS = 0` every raw level is old enough. -/
theorem zeroDebounceIsIdentity : Obligations.ZeroDebounceIsIdentity := by
  refine fun c p m s t hzero => ⟨fun hsample => ?_, fun htick => ?_⟩
  · cases hsample
    exact sampleSwitches_zero_out s.ports.sw s.ports.now s hzero
  · rw [exec_tick_db c p m s t htick]
    exact sampleSwitches_zero_out ⟨c, p, m⟩ s.ports.now s hzero

/-! ### A series of samples of one switch -/

/-- One switch's registers after samples of the raw level `raw` at each of the times `ts`. -/
def sampledSeries (debounceMs : Nat) (raw : Bool) (ts : List Nat) (d : Debounce) : Debounce :=
  ts.foldl (fun d t => sampled debounceMs raw t d) d

theorem sampledSeries_cons (debounceMs : Nat) (raw : Bool) (t : Nat) (ts : List Nat) (d : Debounce) :
    sampledSeries debounceMs raw (t :: ts) d = sampledSeries debounceMs raw ts (sampled debounceMs raw t d) := rfl

theorem sampledSeries_concat (debounceMs : Nat) (raw : Bool) (ts : List Nat) (t : Nat) (d : Debounce) :
    sampledSeries debounceMs raw (ts ++ [t]) d = sampled debounceMs raw t (sampledSeries debounceMs raw ts d) := by
  simp [sampledSeries]

/-- An unchanged raw level keeps its time (45_switch_debounce.md R240). -/
theorem sampledSeries_since_of_raw (debounceMs : Nat) (raw : Bool) (ts : List Nat) (d : Debounce) (h : d.raw = raw) :
    (sampledSeries debounceMs raw ts d).since = d.since := by
  induction ts generalizing d with
  | nil => rfl
  | cons t ts ih => rw [sampledSeries_cons, ih _ rfl, sampled_since, if_pos h.symm]

theorem sampledSeries_since_le (debounceMs : Nat) (raw : Bool) (t : Nat) (ts : List Nat) (d : Debounce)
    (h : d.since ≤ t) : (sampledSeries debounceMs raw (t :: ts) d).since ≤ t := by
  rw [sampledSeries_cons, sampledSeries_since_of_raw _ _ _ _ (sampled_raw debounceMs raw t d), sampled_since]
  split
  · exact h
  · exact le_rfl

theorem sampledSeries_out_of_stable (debounceMs : Nat) (raw : Bool) (t : Nat) (ts : List Nat) (d : Debounce)
    (h : d.since ≤ t) (hstable : debounceMs ≤ ts.getLastD t - t) :
    (sampledSeries debounceMs raw (t :: ts) d).out = raw := by
  have hsince := sampledSeries_since_le debounceMs raw t ts d h
  rcases List.eq_nil_or_concat ts with rfl | ⟨init, last, rfl⟩
  · exact sampled_out_of_old _ _ _ _ (by simp at hstable; omega)
  · rw [List.concat_eq_append, ← List.cons_append, sampledSeries_concat] at hsince ⊢
    exact sampled_out_of_old _ _ _ _ (by simp at hstable; omega)

theorem sampledSeries_out_of_raw (debounceMs : Nat) (raw : Bool) (ts : List Nat) (d : Debounce) (hraw : d.raw = raw)
    (hyoung : raw = d.out ∨ ∀ x ∈ ts, x - d.since < debounceMs) :
    (sampledSeries debounceMs raw ts d).out = d.out := by
  induction ts generalizing d with
  | nil => rfl
  | cons t ts ih =>
    have hsince : (sampled debounceMs raw t d).since = d.since := if_pos hraw.symm
    have hout : (sampled debounceMs raw t d).out = d.out :=
      sampled_out_of_young _ _ _ _ (hyoung.imp_right fun h => by rw [hsince]; exact h t List.mem_cons_self)
    rw [sampledSeries_cons, ih _ rfl, hout]
    rw [hout, hsince]
    exact hyoung.imp_right fun h x hx => h x (List.mem_cons_of_mem t hx)

theorem le_getLastD_of_isChain (t : Nat) (ts : List Nat) (h : (t :: ts).IsChain (· ≤ ·)) :
    ∀ x ∈ t :: ts, x ≤ ts.getLastD t := by
  induction ts generalizing t with
  | nil => simp
  | cons y ys ih =>
    obtain ⟨hle, hrest⟩ := List.isChain_cons_cons.mp h
    rw [List.getLastD_cons]
    intro x hx
    rcases List.mem_cons.mp hx with rfl | hx
    · exact hle.trans (ih y hrest y List.mem_cons_self)
    · exact ih y hrest x hx

theorem sampledSeries_out_of_pulse (debounceMs : Nat) (raw : Bool) (t : Nat) (ts : List Nat) (d : Debounce)
    (hchain : (t :: ts).IsChain (· ≤ ·)) (hpulse : ts.getLastD t - t < debounceMs) (hrest : d.raw = d.out) :
    (sampledSeries debounceMs raw (t :: ts) d).out = d.out := by
  by_cases hsame : raw = d.raw
  · exact sampledSeries_out_of_raw _ _ _ _ hsame.symm (.inl (hsame.trans hrest))
  · have hsince : (sampled debounceMs raw t d).since = t := if_neg hsame
    have hout : (sampled debounceMs raw t d).out = d.out :=
      sampled_out_of_young _ _ _ _ (.inr (by rw [hsince]; omega))
    rw [sampledSeries_cons, sampledSeries_out_of_raw _ _ _ _ (sampled_raw debounceMs raw t d) (.inr fun x hx => ?_),
      hout]
    have hx' := le_getLastD_of_isChain t ts hchain x (List.mem_cons_of_mem t hx)
    rw [hsince]
    omega

/-- A series of `DB.SAMPLE`s is a series for each switch. -/
theorem runRawSamples_db (l : Levels) (ts : List Nat) (s : State) :
    ∃ u, runRawSamples l ts s = some u ∧
      u.db = ⟨sampledSeries s.cfg.debounceMs l.closed ts s.db.closed,
        sampledSeries s.cfg.debounceMs l.parcel ts s.db.parcel,
        sampledSeries s.cfg.debounceMs l.mail ts s.db.mail⟩ := by
  induction ts generalizing s with
  | nil => exact ⟨s, rfl, rfl⟩
  | cons t ts ih =>
    obtain ⟨u, hrun, hdb⟩ := ih (sampleSwitches l t { s with ports := { s.ports with now := t, sw := l } })
    refine ⟨u, hrun, hdb.trans ?_⟩
    simp only [sampleSwitches_db, sampleSwitches_cfg, sampleSwitch_eq_sampled, sampledSeries_cons]

/-- Settles O39: the argument of one switch, three times. -/
theorem stableLevelPassesShortPulseDoesNot : Obligations.StableLevelPassesShortPulseDoesNot := by
  intro s l t ts hchain hclosed hparcel hmail
  obtain ⟨u, hrun, hdb⟩ := runRawSamples_db l (t :: ts) s
  refine ⟨u, hrun, fun hstable => ?_, fun hpulse => ?_⟩ <;> rw [hdb]
  · exact ⟨sampledSeries_out_of_stable _ _ t ts _ hclosed hstable,
      sampledSeries_out_of_stable _ _ t ts _ hparcel hstable, sampledSeries_out_of_stable _ _ t ts _ hmail hstable⟩
  · exact ⟨sampledSeries_out_of_pulse _ _ t ts _ hchain hpulse, sampledSeries_out_of_pulse _ _ t ts _ hchain hpulse,
      sampledSeries_out_of_pulse _ _ t ts _ hchain hpulse⟩

end Sys2Proof.Machine
end

section
/-! PROOFS. The reset and the configuration: the reset values, the refused configurations, and the outputs that are
functions of the configuration (70_reset_and_hazards.md R300, R301; 00_scope.md R8, R9). -/

namespace Sys2Proof.Machine

open Sys2Proof.Claims

/-! ### RESET -/

/-- Settles O40: the word is its row's, and the registers are those of 70_reset_and_hazards.md R301. -/
theorem resetLoadsResetValues : Obligations.ResetLoadsResetValues :=
  ⟨Laws.EncodesToItsRow.reset.2, fun s hwf => ⟨_, exec_reset s hwf, rfl, rfl, rfl, rfl, rfl, rfl, rfl, rfl, rfl,
    rfl, rfl, rfl, rfl, rfl, rfl, rfl, rfl, rfl, rfl⟩⟩

/-- The reset values are made of the configuration, the time, the input side and the count of draws. -/
theorem resetRegisters_congr (c : Cfg) (now : Nat) (s u : State) (hports : s.ports = u.ports)
    (hinbox : s.inbox = u.inbox) (hdraws : s.draws = u.draws) : resetRegisters c now s = resetRegisters c now u := by
  rw [resetRegisters, resetRegisters, hports, hinbox, hdraws]

/-- Settles O41: the latched configuration and the time are on the ports. -/
theorem resetForgetsEverything : Obligations.ResetForgetsEverything := by
  intro s u hports hinbox hdraws
  cases hwf : s.ports.cfg.wf
  · rw [exec_reset_illFormed s hwf, exec_reset_illFormed u (hports ▸ hwf)]
  · rw [exec_reset s hwf, exec_reset u (hports ▸ hwf), ← hports, resetRegisters_congr _ _ s u hports hinbox hdraws]

/-- Settles O43: the power-on configuration is well-formed, so it is latched. -/
theorem stateResetIsAReset : Obligations.StateResetIsAReset := by
  intro s hports hinbox hdraws
  have hcfg : s.ports.cfg = Config.powerOn := hports ▸ rfl
  have hnow : s.ports.now = 0 := hports ▸ rfl
  rw [exec_reset s (hcfg ▸ powerOn_wf), hcfg, hnow, resetRegisters_powerOn s hports hinbox hdraws]

theorem notes_of_wf {c : Cfg} (h : c.wf = true) :
    c.defaultMelody.notes ≠ [] ∧ (∀ n ∈ c.defaultMelody.notes, 1 ≤ n.tempoDivisor) ∧
      (∀ e ∈ c.melodyTable, ∀ n ∈ e.2.notes, 1 ≤ n.tempoDivisor) ∧ 1 ≤ c.minBits := by
  obtain ⟨-, -, hsounds, hdivisors, hmin⟩ := c.wf_iff.mp h
  obtain ⟨hdefault, htable⟩ := c.divisorsPositive_iff.mp hdivisors
  exact ⟨c.defaultSounds_iff.mp hsounds, (Melody.wf_iff _).mp hdefault, fun e he => (Melody.wf_iff _).mp (htable e he),
    c.minBitsPositive_iff.mp hmin⟩

/-- Settles O42: each broken premise contradicts the same premise of a well-formed configuration. -/
theorem resetRefusesIllFormedConfig : Obligations.ResetRefusesIllFormedConfig := by
  intro s hbroken
  cases hwf : s.ports.cfg.wf
  · exact exec_reset_illFormed s hwf
  · exfalso
    obtain ⟨hbreakaway, hopen, hclose⟩ := duties_of_wf hwf
    obtain ⟨hsounds, hdefault, htable, hmin⟩ := notes_of_wf hwf
    rcases hbroken with h | h | h | h | h | h | ⟨n, hn, h⟩ | ⟨e, he, n, hn, h⟩ | h
    · omega
    · omega
    · omega
    · omega
    · omega
    · exact hsounds h
    · have := hdefault n hn
      omega
    · have := htable e he n hn
      omega
    · omega

/-! ### The outputs -/

/-- Settles O58: one row of the default table for each state. -/
theorem defaultLedsOfEachState : Obligations.DefaultLedsOfEachState := by
  intro s hmap
  unfold leds
  rw [hmap]
  refine ⟨fun hd => ?_, fun hd => ?_, fun hd => ?_⟩
  · rw [hd]
    rfl
  · rcases hd with hd | hd | hd | hd <;> rw [hd] <;> rfl
  · rcases hd with hd | hd | hd | hd <;> rw [hd] <;> rfl

/-- The table that lists the strings of `g` for the arguments `l`. -/
def tableOf (l : List (Code × Count)) (g : Code → Count → String) : Formatter where
  entries := l.map fun x => (x, g x.1 x.2)
  otherwise := ""

theorem formatCode_tableOf (l : List (Code × Count)) (g : Code → Count → String) (code : Code) (bits : Count)
    (h : (code, bits) ∈ l) : formatCode (tableOf l g) code bits = g code bits := by
  rw [formatCode, tableOf, List.lookup_graph (fun x : Code × Count => g x.1 x.2) h, Option.getD_some]

/-- The arguments of a formatter are finitely many (00_scope.md R8). -/
theorem exists_list_all_arguments : ∃ l : List (Code × Count), ∀ x, x ∈ l :=
  ⟨Finset.univ.toList, fun x => Finset.mem_toList.mpr (Finset.mem_univ x)⟩

/-- Settles O59: a `RESET` latches the table of `g` with the rest of the configuration on the port. -/
theorem everyFormatterCanBeLatched : Obligations.EveryFormatterCanBeLatched := by
  intro g s hwf
  obtain ⟨l, hl⟩ := exists_list_all_arguments
  refine ⟨tableOf l g, _, exec_reset _ hwf, rfl, fun u hu => ?_⟩
  rw [diagString, hu]
  exact formatCode_tableOf l g u.diag.code u.diag.bits (hl _)

end Sys2Proof.Machine
end

section
/-! PROOFS. The tick: what it leaves alone, what its last step does to the reader, how often it notifies, and its
equality with the six micro-operations (44_tick_and_sync.md R220 to R227). -/

namespace Sys2Proof.Machine

open Sys2Proof.Claims

/-! ### Completion and frame -/

theorem tickFront_cfg (l : Levels) (now : Nat) (s : State) : (tickFront l now s).cfg = s.cfg := by
  obtain ⟨_, _, _, _, _, _, _, _, heq⟩ := tickFront_frame l now s
  rw [heq]

theorem tickFront_w (l : Levels) (now : Nat) (s : State) : (tickFront l now s).w = s.w := by
  obtain ⟨_, _, _, _, _, _, _, _, heq⟩ := tickFront_frame l now s
  rw [heq]

theorem tickFront_f (l : Levels) (now : Nat) (s : State) : (tickFront l now s).f = s.f := by
  obtain ⟨_, _, _, _, _, _, _, _, heq⟩ := tickFront_frame l now s
  rw [heq]

/-- Settles O34: only `SM.CRED` can be refused, and no step writes the configuration or the input side. -/
theorem tickCompletes : Obligations.TickCompletes := by
  intro c p m s hcode
  obtain ⟨t, ht⟩ := cred_completes s.ports.now s.ports.auth (tickFront ⟨c, p, m⟩ s.ports.now s) hcode
  obtain ⟨_, _, _, _, _, _, _, _, _, _, hcred, -⟩ := cred_frame _ _ _ t ht
  obtain ⟨_, _, _, _, _, _, _, _, hfront⟩ := tickFront_frame ⟨c, p, m⟩ s.ports.now s
  refine ⟨t, ht, ?_⟩
  rw [hcred, hfront]
  exact ⟨rfl, rfl, rfl, rfl, rfl⟩

/-! ### The reader's registers -/

theorem poll_of_arriving (now : Nat) (s : State) (h : now - s.w.last ≤ s.cfg.quietMs) : poll now s = s :=
  pollCommit_stay _ s (Bool.eq_false_iff.mpr fun hgo => h.not_gt ((pollSnap_go_iff now s).mp hgo).2)

theorem cred_w_of_arriving (now : Nat) (auth : AuthWord) (s t : State) (hatomic : s.cfg.pollAtomic = true)
    (hquiet : now - s.w.last ≤ s.cfg.quietMs) (h : cred now auth s = .next t) : t.w = s.w := by
  by_cases hd : s.door = .locked
  · rw [cred_locked_atomic now auth s hd hatomic, poll_of_arriving now s hquiet] at h
    obtain ⟨_, _, _, _, _, _, _, _, heq, -⟩ := takeAndAuthorize_frame now auth s t h
    rw [heq]
  · rw [cred_elsewhere now auth s hd] at h
    cases h
    rfl

/-- Settles O9: the front of the tick leaves the group alone, and its poll does not finalize. -/
theorem tickKeepsArrivingFrame : Obligations.TickKeepsArrivingFrame := by
  intro c p m s hquiet hcode hatomic
  obtain ⟨t, ht, -⟩ := tickCompletes c p m s hcode
  refine ⟨t, ht, ?_⟩
  rw [cred_w_of_arriving s.ports.now s.ports.auth (tickFront ⟨c, p, m⟩ s.ports.now s) t ?_ ?_ ht, tickFront_w]
  · rw [tickFront_cfg, hatomic]
  · rw [tickFront_w, tickFront_cfg]
    exact hquiet

theorem applyAuth_f (a : AuthAnswer) (fr : Frame) (now : Nat) (s : State) : (applyAuth a fr now s).f = s.f := by
  obtain ⟨_, _, _, _, _, _, heq⟩ := applyAuth_frame a fr now s
  rw [heq]

theorem takeAndAuthorize_avail (now : Nat) (auth : AuthWord) (s t : State)
    (h : takeAndAuthorize now auth s = .next t) : t.f.avail = false := by
  rcases takeAndAuthorize_cases now auth s with ⟨hempty, heq⟩ | ⟨-, a, -, heq⟩ | ⟨-, -, heq⟩
  · rw [heq] at h
    cases h
    exact hempty
  · rw [heq] at h
    cases h
    rw [applyAuth_f]
  · rw [heq] at h
    cases h

/-- Settles O10: in `Locked` the last step takes any pending frame, elsewhere it does nothing. -/
theorem tickLeavesNoPendingFrame : Obligations.TickLeavesNoPendingFrame := by
  intro c p m s t hatomic h
  rw [exec_tick] at h
  by_cases hd : (tickFront ⟨c, p, m⟩ s.ports.now s).door = .locked
  · rw [cred_locked_atomic _ _ _ hd (by rw [tickFront_cfg, hatomic])] at h
    have htaken := takeAndAuthorize_avail _ _ _ t h
    exact ⟨fun _ => htaken, fun _ => htaken⟩
  · rw [cred_elsewhere _ _ _ hd] at h
    cases h
    exact ⟨fun hlocked => absurd hlocked hd, fun hempty => by rw [tickFront_f, hempty]⟩

/-! ### The notifications -/

theorem timed_notify (now : Nat) (s : State) : ∃ l, (timed now s).notify = s.notify ++ l ∧ l.length ≤ 1 := by
  rcases timed_cases now s with heq | ⟨g, cs, heq, -⟩
  · exact ⟨[], by rw [heq, List.append_nil], Nat.zero_le 1⟩
  · exact ⟨[(g, s.attr)], by rw [heq]; rfl, le_rfl⟩

theorem switches_notify (now : Nat) (s : State) : ∃ l, (switches now s).notify = s.notify ++ l ∧ l.length ≤ 1 := by
  unfold switches
  rcases switchTransition_cases now (recordNosw now s) with heq | ⟨g, heq, -⟩
  · exact ⟨[], by rw [heq, List.append_nil]; rfl, Nat.zero_le 1⟩
  · exact ⟨[(g, s.attr)], by rw [heq]; rfl, le_rfl⟩

theorem tickFront_notify (l : Levels) (now : Nat) (s : State) :
    ∃ n, (tickFront l now s).notify = s.notify ++ n ∧ n.length ≤ 2 := by
  obtain ⟨n, hn, hlen⟩ := timed_notify now (sampleSwitches l now s)
  obtain ⟨n', hn', hlen'⟩ :=
    switches_notify now (tickMelody now (writeMotor now (timed now (sampleSwitches l now s))))
  refine ⟨n ++ n', ?_, by rw [List.length_append]; omega⟩
  rw [tickFront, hn', tickMelody_notify, writeMotor_notify, hn, sampleSwitches_notify, List.append_assoc]

/-- Settles O35: at most one notification each from `SM.TIMED`, `SM.SWITCH` and `SM.CRED`. -/
theorem tickNotifiesAtMostThreeTimes : Obligations.TickNotifiesAtMostThreeTimes := by
  intro c p m s t h
  obtain ⟨n, hn, hlen⟩ := tickFront_notify ⟨c, p, m⟩ s.ports.now s
  obtain ⟨_, _, _, _, _, _, _, n', _, _, heq, hlen'⟩ := cred_frame _ _ _ t h
  refine ⟨n ++ n', ?_, by rw [List.length_append]; omega⟩
  rw [heq, ← List.append_assoc, ← hn]

/-! ### `MotorError` and the motor timeout -/

theorem writeMotor_motorError (now : Nat) (s : State) (h : s.door = .motorError) :
    writeMotor now s = { s with pwm := brakeCommand s.cfg } := by
  have hbrake : command s.cfg s.door (now - s.motorAt) = brakeCommand s.cfg := h ▸ rfl
  rw [writeMotor, hbrake]

/-- The rest of a tick whose `SM.TIMED` leads to, or stays in, `MotorError`: the brake, and no transition. -/
theorem exec_tick_of_timed_motorError (c p m : Bool) (s u : State)
    (hu : timed s.ports.now (sampleSwitches ⟨c, p, m⟩ s.ports.now s) = u) (h : u.door = .motorError) :
    exec (.tick c p m) s =
      .next (recordNosw s.ports.now
        { u with pwm := brakeCommand u.cfg, player := tickPlayer s.ports.now u.player }) := by
  have hfront : tickFront ⟨c, p, m⟩ s.ports.now s =
      recordNosw s.ports.now
        { u with pwm := brakeCommand u.cfg, player := tickPlayer s.ports.now u.player } := by
    rw [tickFront, hu, writeMotor_motorError _ u h, tickMelody]
    exact switches_motorError _ _ h
  rw [exec_tick, hfront, cred_elsewhere]
  simp [h]

/-- Settles O36: `SM.TIMED` enters `MotorError` first, and the rest of the tick finds the door there. -/
theorem motorTimeoutBeatsSwitch : Obligations.MotorTimeoutBeatsSwitch := by
  intro c p m s hdriving hlate hwf
  have htimed := (timed_motorDriving s.ports.now (sampleSwitches ⟨c, p, m⟩ s.ports.now s) hdriving).trans (if_pos hlate)
  have htick := exec_tick_of_timed_motorError c p m s _ htimed rfl
  obtain ⟨ha, hb⟩ := brakeCommand_toNat s.cfg hwf
  exact ⟨_, htick, rfl, rfl, rfl, ha, hb, rfl, rfl, rfl, rfl⟩

theorem exec_request_motorError (s : State) (hd : s.door = .motorError) (i : Instr)
    (hi : i = .reqOpenParcel ∨ i = .reqOpenMail ∨ i = .reqClose) :
    exec i s = .next (withRaised [.ignoredRequest] s) := by
  rcases hi with rfl | rfl | rfl
  · rw [exec_reqOpenParcel, openRequest_motorError _ _ _ s hd, raise_eq_withRaised]
  · rw [exec_reqOpenMail, openRequest_motorError _ _ _ s hd, raise_eq_withRaised]
  · rw [exec_reqClose, closeRequest_motorError _ s hd, raise_eq_withRaised]

/-- Settles O29: `SM.TIMED` does nothing in `MotorError`. -/
theorem motorErrorAbsorbsTickAndRequests : Obligations.MotorErrorAbsorbsTickAndRequests := by
  refine fun c p m s hd hwf => ⟨?_, exec_request_motorError s hd⟩
  have htimed := timed_motorError s.ports.now (sampleSwitches ⟨c, p, m⟩ s.ports.now s) hd
  have htick := exec_tick_of_timed_motorError c p m s _ htimed hd
  rw [recordNosw_eq, tickPlayer_eq_tickedPlayer] at htick
  obtain ⟨ha, hb⟩ := brakeCommand_toNat s.cfg hwf
  refine ⟨_, htick, hd, ha, hb, rfl, ?_, rfl, rfl⟩
  simp only [sampleSwitches_db, sampleSwitch_eq_sampled]

/-! ### The six micro-operations -/

/-- `p` with the switch levels `l`. -/
def withLevels (l : Levels) (p : Ports) : Ports := { p with sw := l }

/-- The arm of `SM.TIMED` and its threshold do not depend on `POLL_ATOMIC` or the ports. -/
theorem timed_withInputs (b : Bool) (p : Ports) (now : Nat) (s : State) :
    timed now (withInputs b p s) = withInputs b p (timed now s) := by
  unfold timed
  rw [show (withInputs b p s).door = s.door from rfl]
  cases s.door <;> simp only [apply_ite (withInputs b p)] <;> rfl

theorem switches_withInputs (b : Bool) (p : Ports) (now : Nat) (s : State) :
    switches now (withInputs b p s) = withInputs b p (switches now s) := by
  unfold switches switchTransition
  rw [show (recordNosw now (withInputs b p s)).door = (recordNosw now s).door from rfl]
  cases (recordNosw now s).door <;> simp only [apply_ite (withInputs b p)] <;> rfl

theorem tickFront_withInputs (b : Bool) (p : Ports) (l : Levels) (now : Nat) (s : State) :
    tickFront l now (withInputs b p s) = withInputs b p (tickFront l now s) := by
  have htimed := timed_withInputs b p now (sampleSwitches l now s)
  have hswitches := switches_withInputs b p now (tickMelody now (writeMotor now (timed now (sampleSwitches l now s))))
  exact (congrArg (fun u => switches now (tickMelody now (writeMotor now u))) htimed).trans hswitches

/-- `SM.CRED` reads `POLL_ATOMIC`, but not the ports: its time and answer are given. -/
theorem cred_withInputs (p : Ports) (now : Nat) (auth : AuthWord) (s : State) :
    cred now auth (withInputs s.cfg.pollAtomic p s) = mapNext (withInputs s.cfg.pollAtomic p) (cred now auth s) := by
  by_cases hd : s.door = .locked
  · cases ha : s.cfg.pollAtomic
    · rw [cred_locked_split now auth s hd ha, cred_locked_split now auth (withInputs false p s) hd rfl]
      rfl
    · rw [cred_locked_atomic now auth s hd ha, cred_locked_atomic now auth (withInputs true p s) hd rfl,
        ← takeAndAuthorize_withInputs]
      exact congrArg _ (pollCommit_withInputs true p (pollSnap now s) s)
  · rw [cred_elsewhere now auth s hd, cred_elsewhere now auth (withInputs s.cfg.pollAtomic p s) hd, mapNext]

theorem cred_tickFront_withInputs (p : Ports) (l : Levels) (now : Nat) (auth : AuthWord) (s : State) :
    cred now auth (tickFront l now (withInputs s.cfg.pollAtomic p s)) =
      mapNext (withInputs s.cfg.pollAtomic p) (cred now auth (tickFront l now s)) := by
  rw [tickFront_withInputs, ← tickFront_cfg l now s, cred_withInputs]

theorem timed_ports (now : Nat) (s : State) : (timed now s).ports = s.ports := by
  obtain ⟨_, _, _, _, _, heq⟩ := timed_frame now s
  rw [heq]

theorem switches_ports (now : Nat) (s : State) : (switches now s).ports = s.ports := by
  obtain ⟨_, _, _, _, heq⟩ := switches_frame now s
  rw [heq]

/-- The micro-operations one after the other, on the ports of `s`. -/
theorem andThen_microOperations (s : State) :
    andThen (andThen (andThen (andThen (andThen (exec .dbSample s) .smTimed) .mWrite) .sTick) .smSwitch) .smCred =
      cred s.ports.now s.ports.auth (tickFront s.ports.sw s.ports.now s) := by
  simp only [andThen, exec_dbSample, exec_smTimed, exec_mWrite, exec_sTick, exec_smSwitch, exec_smCred, timed_ports,
    switches_ports, sampleSwitches_ports, writeMotor_ports, tickMelody_ports, tickFront]

theorem withPorts_mapNext_withInputs (s : State) (p : Ports) (o : Host.Outcome State Fault Refusal)
    (h : Answers (fun t => t.cfg = s.cfg ∧ t.ports = s.ports) o) :
    withPorts s.ports (mapNext (withInputs s.cfg.pollAtomic p) o) = o := by
  cases o with
  | next t =>
    obtain ⟨hcfg, hports⟩ := h t rfl
    rw [mapNext, withPorts, withInputs, ← hcfg, ← hports]
  | fault r => rfl
  | refused r => rfl

/-- Settles O33: the micro-operations read of the ports only what the tick's own ports hold too. -/
theorem tickIsSixMicroOperations : Obligations.TickIsSixMicroOperations := by
  intro c p m s
  have hkept : Answers (fun t => t.cfg = s.cfg ∧ t.ports = s.ports) (exec (.tick c p m) s) := fun t ht => by
    obtain ⟨hcfg, hports, -⟩ := (keptByParts_hasInputs s.cfg s.ports s.inbox).exec (.tick c p m) s nofun nofun
      ⟨rfl, rfl, rfl⟩ t ht
    exact ⟨hcfg, hports⟩
  calc exec (.tick c p m) s
      = withPorts s.ports
          (mapNext (withInputs s.cfg.pollAtomic (withLevels ⟨c, p, m⟩ s.ports)) (exec (.tick c p m) s)) :=
        (withPorts_mapNext_withInputs s _ _ hkept).symm
    _ = withPorts s.ports (cred s.ports.now s.ports.auth
          (tickFront ⟨c, p, m⟩ s.ports.now (withInputs s.cfg.pollAtomic (withLevels ⟨c, p, m⟩ s.ports) s))) := by
        rw [cred_tickFront_withInputs, exec_tick]
    _ = _ := congrArg (withPorts s.ports)
        (andThen_microOperations (withInputs s.cfg.pollAtomic (withLevels ⟨c, p, m⟩ s.ports) s)).symm

end Sys2Proof.Machine
end

section
/-! PROOFS. The step: which event it performs or refuses, what an agent can write, and whole runs (00_scope.md R11,
R14; 20_memory.md R67; 60_exceptions.md R260, R275). -/

namespace Sys2Proof.Machine

open Sys2Proof.Claims

/-! ### Which event a step performs or refuses -/

theorem mayPerform_iff (a : Agent) (i : Instr) : mayPerform a i = true ↔ a = .harness ∨ ownerOf i = some a := by
  simp [mayPerform]

/-- Settles O48: the first event is accepted. -/
theorem stepRunsDecodedOperation : Obligations.StepRunsDecodedOperation := by
  intro s e rest i hw hi hd _ hown hlater
  exact step_perform s e rest i (agenda_perform s e rest hw hi)
    (acceptEvent_ok e s i hd ((mayPerform_iff e.source i).mpr hown) hlater)

theorem acceptEvent_timeWentBack (e : Event) (s : State) (i : Instr) (hd : decodeWord e.word = .ok i)
    (hm : mayPerform e.source i = true) (hearlier : e.ports.now < s.ports.now) :
    acceptEvent e s = .error .timeWentBack := by
  simp [acceptEvent, hd, hm, hearlier]

/-- Settles O51: the event is its agent's, so only its time is wrong. -/
theorem timeRunningBackwardsRefused : Obligations.TimeRunningBackwardsRefused := by
  intro s e rest i hw hi hd hown hearlier
  have hmay := (mayPerform_iff e.source i).mpr (.inr hown)
  exact step_refused s e rest _ (agenda_perform s e rest hw hi) (acceptEvent_timeWentBack e s i hd hmay hearlier)

/-- Settles O57: the idle step. -/
theorem nothingPresentedNothingChanges : Obligations.NothingPresentedNothingChanges := step_idle

/-! ### What an agent can write -/

theorem exec_of_step_perform (s t : State) (e : Event) (rest : List Event) (ha : agenda s = .perform e rest)
    (h : step s = .next t) : ∃ i, acceptEvent e s = .ok i ∧ exec i (present e rest s) = .next t := by
  cases hi : acceptEvent e s with
  | ok i => exact ⟨i, rfl, step_perform s e rest i ha hi ▸ h⟩
  | error r =>
    rw [step_refused s e rest r ha hi] at h
    cases h

theorem isEdge_of_mayPerform_irq (i : Instr) (h : mayPerform .irq i = true) : i = .edge0 ∨ i = .edge1 := by
  have hown : ownerOf i = some .irq := ((mayPerform_iff .irq i).mp h).resolve_left nofun
  rcases ownerOf_eq_some i .irq hown with ⟨hi, -⟩ | ⟨-, ⟨⟩⟩ | ⟨-, ⟨⟩⟩ | ⟨-, ⟨⟩⟩
  exact hi

theorem isRequest_of_mayPerform_host (i : Instr) (h : mayPerform .host i = true) :
    i = .reqOpenParcel ∨ i = .reqOpenMail ∨ i = .reqClose := by
  have hown : ownerOf i = some .host := ((mayPerform_iff .host i).mp h).resolve_left nofun
  rcases ownerOf_eq_some i .host hown with ⟨-, ⟨⟩⟩ | ⟨-, ⟨⟩⟩ | ⟨hi, -⟩ | ⟨-, ⟨⟩⟩
  exact hi

theorem exec_edge_frame (i : Instr) (s t : State) (hi : i = .edge0 ∨ i = .edge1) (h : exec i s = .next t) :
    t = { s with w := t.w, noted := t.noted } := by
  rcases hi with rfl | rfl
  · rw [exec_edge0, edge_eq] at h
    cases h
    rfl
  · rw [exec_edge1, edge_eq] at h
    cases h
    rfl

/-- The registers of the reader, the motor outputs and the switches are those of `s₀`. -/
def LeavesDevices (s₀ s : State) : Prop :=
  s.w = s₀.w ∧ s.f = s₀.f ∧ s.pwm = s₀.pwm ∧ s.db = s₀.db ∧ s.diag = s₀.diag ∧ s.noswSince = s₀.noswSince

theorem openRequest_leavesDevices (k : Kind) (l : Label) (now : Nat) (s : State) :
    LeavesDevices s (openRequest k l now s) := by
  obtain ⟨_, _, _, _, _, _, heq, -⟩ := openRequest_frame k l now s
  exact heq ▸ ⟨rfl, rfl, rfl, rfl, rfl, rfl⟩

theorem closeRequest_leavesDevices (now : Nat) (s : State) : LeavesDevices s (closeRequest now s) := by
  cases ho : isOpen s.door
  · exact closeRequest_ignored now s ho ▸ ⟨rfl, rfl, rfl, rfl, rfl, rfl⟩
  · exact closeRequest_open now s ho ▸ ⟨rfl, rfl, rfl, rfl, rfl, rfl⟩

theorem exec_request_leavesDevices (i : Instr) (s : State)
    (hi : i = .reqOpenParcel ∨ i = .reqOpenMail ∨ i = .reqClose) : Answers (LeavesDevices s) (exec i s) := by
  rcases hi with rfl | rfl | rfl
  · exact answers_next (openRequest_leavesDevices _ _ _ s)
  · exact answers_next (openRequest_leavesDevices _ _ _ s)
  · exact answers_next (closeRequest_leavesDevices _ s)

/-- Settles O53: an interrupt event is an edge, a host event is a request. -/
theorem agentsWriteOnlyTheirOwn : Obligations.AgentsWriteOnlyTheirOwn := by
  intro s t e rest ha h
  obtain ⟨i, haccept, hexec⟩ := exec_of_step_perform s t e rest ha h
  obtain ⟨-, hmay, -⟩ := acceptEvent_eq_ok e s i haccept
  refine ⟨fun hirq => ?_, fun hhost => ?_⟩
  · exact exec_edge_frame i _ t (isEdge_of_mayPerform_irq i (hirq ▸ hmay)) hexec
  · exact exec_request_leavesDevices i (present e rest s) (isRequest_of_mayPerform_host i (hhost ▸ hmay)) t hexec

/-! ### Every operation completes -/

theorem exists_doorOfCode (code : BitVec 4) (h : code.toNat ≤ 8) : ∃ g, doorOfCode code = some g :=
  Option.ne_none_iff_exists'.mp fun hnone => by
    have := (doorOfCode_eq_none_iff code).mp hnone
    omega

theorem exec_wPoll_completes (s : State) : ∃ t, exec .wPoll s = .next t := by
  cases ha : s.cfg.pollAtomic
  · exact ⟨_, exec_wPoll_split s ha⟩
  · exact ⟨_, exec_wPoll_atomic s ha⟩

/-- Settles O49: the operations that can be refused are so only for a reserved operand. -/
theorem everyOperationCompletes : Obligations.EveryOperationCompletes := by
  rintro i s ⟨hcode, hanswer, hcfg⟩
  cases i with
  | smEnter =>
    obtain ⟨g, hg⟩ := exists_doorOfCode _ (hcode (.inl rfl))
    exact ⟨_, exec_smEnter s g hg⟩
  | mCmd =>
    obtain ⟨g, hg⟩ := exists_doorOfCode _ (hcode (.inr rfl))
    exact ⟨_, exec_mCmd s g hg⟩
  | smCred => exact cred_completes _ _ s (hanswer (.inl rfl))
  | tick c p m => exact cred_completes _ _ _ (hanswer (.inr ⟨c, p, m, rfl⟩))
  | reset => exact ⟨_, exec_reset s (hcfg rfl)⟩
  | wPoll => exact exec_wPoll_completes s
  | _ => exact ⟨_, rfl⟩

/-! ### Whole runs -/

/-- No part but the opening and the closing of a split poll writes the open poll. -/
theorem keptByRegisterParts_window (Q : Option PollWindow → Prop) : KeptByRegisterParts fun s => Q s.window where
  edge b now s h := (edge_eq b now s).symm ▸ h
  openRequest k l now s h := by
    obtain ⟨_, _, _, _, _, _, heq, -⟩ := openRequest_frame k l now s
    exact heq ▸ h
  closeRequest now s h := by
    cases ho : isOpen s.door
    · exact closeRequest_ignored now s ho ▸ h
    · exact closeRequest_open now s ho ▸ h
  sampleSwitches _ _ _ h := h
  timed now s h := by
    obtain ⟨_, _, _, _, _, heq⟩ := timed_frame now s
    exact heq ▸ h
  writeMotor _ _ h := h
  tickMelody _ _ h := h
  switches now s h := by
    obtain ⟨_, _, _, _, heq⟩ := switches_frame now s
    exact heq ▸ h
  startMelody _ _ _ h := h
  pollCommit p s h := by
    obtain ⟨_, _, _, heq⟩ := pollCommit_frame p s
    exact heq ▸ h
  frameRead _ _ h := h
  noMatch _ _ _ h := h
  result _ _ h := h

/-- A split `SM.CRED` that is open does not carry the reserved answer. -/
def Answerable (w : Option PollWindow) : Prop := ∀ p, w = some p → p.caller = .cred → p.auth.code ≠ 3#2

theorem answerable_some {p : PollWindow} (h : p.caller = .cred → p.auth.code ≠ 3#2) : Answerable (some p) := by
  rintro q ⟨⟩
  exact h

theorem exec_answerable (i : Instr) (s : State) (hdefined : OperandsDefined i s.ports) (h : Answerable s.window) :
    Answers (fun t => Answerable t.window) (exec i s) := by
  obtain ⟨-, hanswer, -⟩ := hdefined
  by_cases henter : i = .smEnter
  · exact henter ▸ answers_smEnter s fun _ => h
  by_cases hreset : i = .reset
  · exact hreset ▸ answers_reset s fun _ => nofun
  exact (keptByRegisterParts_window Answerable).exec i s henter hreset (fun _ _ => answerable_some nofun)
    (fun hreads _ _ => answerable_some fun _ => hanswer hreads) h

theorem closePoll_completes (p : PollWindow) (s : State) (h : p.caller = .cred → p.auth.code ≠ 3#2) :
    ∃ t, closePoll p s = .next t ∧ t.window = none := by
  have hcompletes : ∃ t, closePoll p s = .next t := by
    cases hk : p.caller with
    | alone => exact ⟨_, closePoll_alone p s hk⟩
    | cred =>
      rw [closePoll_cred p s hk]
      exact takeAndAuthorize_completes _ _ _ (h hk)
  obtain ⟨t, ht⟩ := hcompletes
  exact ⟨t, ht, (keptByRegisterParts_window (· = none)).closePoll p s rfl t ht⟩

/-- The presented operations and the open poll of `s` can be worked off. -/
def Workable (s : State) : Prop := Presentable s.ports.now s.inbox ∧ Answerable s.window

/-- An upper bound of the steps that work off `s`: two for each event, which may open a poll, one for an open poll. -/
def workLeft (s : State) : Nat := 2 * s.inbox.length + if s.window = none then 0 else 1

theorem workable_perform (s : State) (e : Event) (rest : List Event) (h : Workable s) (hi : s.inbox = e :: rest)
    (ha : agenda s = .perform e rest) : ∃ t, step s = .next t ∧ Workable t ∧ workLeft t < workLeft s := by
  obtain ⟨hpresentable, hanswerable⟩ := h
  rw [hi] at hpresentable
  obtain ⟨hlater, ⟨i, hd, hown, hdefined⟩, hrest⟩ := hpresentable
  have haccept := acceptEvent_ok e s i hd ((mayPerform_iff e.source i).mpr hown) hlater
  obtain ⟨t, ht⟩ := everyOperationCompletes i (present e rest s) hdefined
  obtain ⟨hports, hinbox, -⟩ := exec_keeps_inputs i _ t ht
  rw [present_ports] at hports
  rw [present_inbox] at hinbox
  refine ⟨t, (step_perform s e rest i ha haccept).trans ht, ⟨?_, ?_⟩, ?_⟩
  · rw [hports, hinbox]
    exact hrest
  · exact exec_answerable i (present e rest s) hdefined hanswerable t ht
  · unfold workLeft
    rw [hinbox, hi, List.length_cons]
    split <;> omega

theorem workable_closePoll (s : State) (p : PollWindow) (h : Workable s) (hw : s.window = some p)
    (ha : agenda s = .closePoll p) : ∃ t, step s = .next t ∧ Workable t ∧ workLeft t < workLeft s := by
  obtain ⟨hpresentable, hanswerable⟩ := h
  obtain ⟨t, ht, hwindow⟩ := closePoll_completes p s (hanswerable p hw)
  obtain ⟨-, hports, hinbox⟩ := closePoll_keeps_inputs p s t ht
  refine ⟨t, (step_closePoll s p ha).trans ht, ⟨?_, ?_⟩, ?_⟩
  · rw [hports, hinbox]
    exact hpresentable
  · rw [hwindow]
    exact nofun
  · simp [workLeft, hinbox, hwindow, hw]

theorem agenda_cases (s : State) :
    (s.window = none ∧ s.inbox = [] ∧ agenda s = .idle) ∨ (∃ p, s.window = some p ∧ agenda s = .closePoll p) ∨
      (∃ e rest, s.inbox = e :: rest ∧ agenda s = .perform e rest) := by
  cases hw : s.window with
  | none =>
    cases hi : s.inbox with
    | nil => exact .inl ⟨rfl, rfl, by simp [agenda, hw, hi]⟩
    | cons e rest => exact .inr (.inr ⟨e, rest, rfl, agenda_perform s e rest hw hi⟩)
  | some p =>
    by_cases hfalls : ∀ e ∈ s.inbox.head?, fallsInPoll e = false
    · exact .inr (.inl ⟨p, rfl, agenda_closePoll s p hw hfalls⟩)
    · push Not at hfalls
      obtain ⟨e, he, hfalls⟩ := hfalls
      obtain ⟨rest, hi⟩ := List.head?_eq_some_iff.mp he
      have hinside := (fallsInPoll_iff e).mp (Bool.not_eq_false _ ▸ hfalls)
      exact .inr (.inr ⟨e, rest, hi, agenda_edgeInPoll s p e rest hw hi hinside⟩)

/-- A step works something off, or there is nothing left. -/
theorem workable_step (s : State) (h : Workable s) :
    (s.inbox = [] ∧ s.window = none) ∨ ∃ t, step s = .next t ∧ Workable t ∧ workLeft t < workLeft s := by
  rcases agenda_cases s with ⟨hw, hi, -⟩ | ⟨p, hw, ha⟩ | ⟨e, rest, hi, ha⟩
  · exact .inl ⟨hi, hw⟩
  · exact .inr (workable_closePoll s p h hw ha)
  · exact .inr (workable_perform s e rest h hi ha)

theorem runsFor_of_workable (k : Nat) (s : State) (h : Workable s) : runsFor k s := by
  induction k generalizing s with
  | zero => trivial
  | succ k ih =>
    rcases workable_step s h with ⟨hi, hw⟩ | ⟨t, ht, hworkable, -⟩
    · exact ⟨s, step_idle s hw hi, ih s h⟩
    · exact ⟨t, ht, ih t hworkable⟩

theorem stepsTo_of_workable (n : Nat) (s : State) (h : Workable s) (hn : workLeft s ≤ n) :
    ∃ k t, k ≤ n ∧ stepsTo k s t ∧ t.inbox = [] ∧ t.window = none := by
  induction n generalizing s with
  | zero =>
    rcases workable_step s h with ⟨hi, hw⟩ | ⟨t, -, -, hless⟩
    · exact ⟨0, s, le_rfl, rfl, hi, hw⟩
    · omega
  | succ n ih =>
    rcases workable_step s h with ⟨hi, hw⟩ | ⟨t, ht, hworkable, hless⟩
    · exact ⟨0, s, Nat.zero_le _, rfl, hi, hw⟩
    · obtain ⟨k, u, hk, hsteps, hdone⟩ := ih t hworkable (by omega)
      exact ⟨k + 1, u, Nat.succ_le_succ hk, ⟨t, ht, hsteps⟩, hdone⟩

theorem workLeft_le (s : State) : workLeft s ≤ 2 * s.inbox.length + 1 := by
  unfold workLeft
  split <;> omega

/-- Settles O50: each step leaves a workable state, with less work until nothing is left. -/
theorem presentedOperationsNeverStop : Obligations.PresentedOperationsNeverStop :=
  fun s hpresentable hanswerable =>
    ⟨fun k => runsFor_of_workable k s ⟨hpresentable, hanswerable⟩,
      stepsTo_of_workable _ s ⟨hpresentable, hanswerable⟩ (workLeft_le s)⟩

end Sys2Proof.Machine
end
